-- ==== Sys2Proof/Word.lean ====
section
/-! DEFINITION. The words IRDEC is made of (spec/00_scope.md R12, spec/30_encoding.md R80, R91):
the 8-bit stimulus word, the 32-bit frame word, and the two levels of an input line. -/

namespace Sys2Proof

/-- A stimulus word: one operation of a trace, always 8 bits (30_encoding.md R80). -/
abbrev StimulusWord := BitVec 8

/-- `ACC_WIDTH` (00_scope.md R10, R11; exactly 32, decision D4). -/
abbrev accWidth : Nat := 32

/-- A frame word: the content of `FrameAccumulator`, a command code (10_state.md R24). -/
abbrev FrameWord := BitVec accWidth

/-- The level of a two-level input line (30_encoding.md R71, R91): LOW is 0, HIGH is 1. -/
inductive Level where
  | low
  | high
deriving DecidableEq, Repr

/-- The two commands the dispatcher knows (42_frame_dispatcher.md R138, 00_scope.md R18). -/
inductive KnownCommand where
  | cmdA
  | cmdB
deriving DecidableEq, Repr

end Sys2Proof
end

