-- ==== Sys2Proof/Syntax.lean ====
section
/-! DEFINITION. The operations of IRDEC, one constructor per row of spec/opcode_table.json
(spec/30_encoding.md R70), and what R70's table says of each: who issues it, in which context it runs. -/

namespace Sys2Proof

/-- The input pins of the pin-level wrapper during one clock cycle (30_encoding.md R82, R90), in the
order `r,x,p,q,t,i` of the mnemonic. The port `clk` is the step itself. -/
structure Pins where
  /-- `rst`: synchronous reset, active high -/
  rst : Bool
  /-- `timeout_ext`: an independent frame-timeout timer fires this cycle -/
  timeoutExt : Bool
  /-- `press`: one confirmed press of the manual override this cycle -/
  press : Bool
  /-- `poll_en`: the main loop polls the flag this cycle -/
  pollEn : Bool
  /-- `tick_en`: one tick of the Tick Timer elapses this cycle -/
  tickEn : Bool
  /-- `ir_in`: the infrared input line -/
  irIn : Level
deriving DecidableEq, Repr

/-- The ten operations (30_encoding.md R70). -/
inductive Instr where
  /-- `NOP` (40_pulse_decoder.md R108) -/
  | nop
  /-- `RISE`: a rising edge of the input line (40_pulse_decoder.md R100, R101) -/
  | rise
  /-- `FALL`: a falling edge of the input line (40_pulse_decoder.md R102, R103) -/
  | fall
  /-- `TICK`: one tick of the Tick Timer (41_tick_timer_timeout.md R120, R121) -/
  | tick
  /-- `TIMEOUT`: the frame timeout (41_tick_timer_timeout.md R122) -/
  | timeout
  /-- `TAKE`: the main loop polls the hand-off (42_frame_dispatcher.md R136, R137) -/
  | take
  /-- `PRESS`: one confirmed press of the button (43_manual_override.md R150) -/
  | press
  /-- `RESET` (70_reset_and_hazards.md R220) -/
  | reset
  /-- `BTN_SAMPLE l`: one sample of the active-low button line (43_manual_override.md R152 to R154) -/
  | btnSample (l : Level)
  /-- `CYCLE r,x,p,q,t,i`: one clock cycle at the pin level (45_pin_level_cycle.md R177) -/
  | cycle (pins : Pins)
deriving DecidableEq, Repr

/-- The contexts of 00_scope.md R9 and 60_exceptions.md R200, with the entries `either`, `neither`
and `both` of the table of 30_encoding.md R70. -/
inductive Context where
  | interrupt
  | mainLoop
  | either
  | neither
  | both
deriving DecidableEq, Repr

/-- Who issues an operation (30_encoding.md R70, 00_scope.md R8). -/
inductive Issuer where
  | anyone
  | lineEnvironment
  | tickSource
  | timeoutSource
  | mainLoop
  | manualOverride
  | resetSource
  | clock
deriving DecidableEq, Repr

namespace Instr

/-- The context column of 30_encoding.md R70. (The counting case of TICK is the timer hardware
itself and counts as interrupt side, 60_exceptions.md R200.) -/
def context : Instr → Context
  | nop => .either
  | rise => .interrupt
  | fall => .interrupt
  | tick => .interrupt
  | timeout => .interrupt
  | take => .mainLoop
  | press => .mainLoop
  | reset => .neither
  | btnSample _ => .mainLoop
  | cycle _ => .both

/-- The "issued by" column of 30_encoding.md R70. (A TIMEOUT word of a trace is the independent
timer's: the overflow of TICK performs TimeoutAction by itself, 41_tick_timer_timeout.md R121.) -/
def issuer : Instr → Issuer
  | nop => .anyone
  | rise => .lineEnvironment
  | fall => .lineEnvironment
  | tick => .tickSource
  | timeout => .timeoutSource
  | take => .mainLoop
  | press => .manualOverride
  | reset => .resetSource
  | btnSample _ => .manualOverride
  | cycle _ => .clock

end Instr

end Sys2Proof
end

