-- ==== Sys2Proof/Decode.lean ====
section
/-! DEFINITION. The stimulus word (spec/30_encoding.md R80 to R83): the decoder, total on all 256 words and
refusing the reserved ones by name; the encoder; the opcode table as mask and pattern rows; byte traces. -/

namespace Sys2Proof

/-- What a stimulus word decodes to: an operation, or one of the two kinds of reserved word (30_encoding.md R83). -/
inductive Decoded where
  /-- the word spells this operation -/
  | operation (i : Instr)
  /-- reserved in format E: `0x0A` to `0x7F` -/
  | reservedFormatE (w : StimulusWord)
  /-- reserved in format P: bit 7 and bit 1 both set -/
  | reservedFormatP (w : StimulusWord)
deriving DecidableEq, Repr

/-- A line level from its bit: LOW = 0, HIGH = 1 (30_encoding.md R91). -/
def Level.ofBit (b : Bool) : Level := if b then .high else .low

/-- A line level as a bit (30_encoding.md R91). -/
def Level.toBit : Level → Bool
  | .low => false
  | .high => true

/-- Format E, bit 7 = 0: bits 6..0 are the operation code; bit 0 of `BTN_SAMPLE` is `l` (30_encoding.md R81). -/
def decodeFormatE (w : StimulusWord) : Decoded :=
  match w.toNat with
  | 0x00 => .operation .nop
  | 0x01 => .operation .rise
  | 0x02 => .operation .fall
  | 0x03 => .operation .tick
  | 0x04 => .operation .timeout
  | 0x05 => .operation .take
  | 0x06 => .operation .press
  | 0x07 => .operation .reset
  | 0x08 => .operation (.btnSample (Level.ofBit (w.getLsbD 0)))
  | 0x09 => .operation (.btnSample (Level.ofBit (w.getLsbD 0)))
  | _ => .reservedFormatE w

/-- Format P, bit 7 = 1: `1 r x p q t 0 i`, bit 1 must be 0 (30_encoding.md R82). -/
def decodeFormatP (w : StimulusWord) : Decoded :=
  if w.getLsbD 1 then .reservedFormatP w
  else .operation (.cycle
    { rst := w.getLsbD 6, timeoutExt := w.getLsbD 5, press := w.getLsbD 4,
      pollEn := w.getLsbD 3, tickEn := w.getLsbD 2, irIn := Level.ofBit (w.getLsbD 0) })

/-- The decoder: bit 7 selects the format (30_encoding.md R80). -/
def decode (w : StimulusWord) : Decoded :=
  if w.getLsbD 7 then decodeFormatP w else decodeFormatE w

/-- The pins as a format P word, `1 r x p q t 0 i` from bit 7 down (30_encoding.md R82). -/
def encodePins (p : Pins) : StimulusWord :=
  1#1 ++ BitVec.ofBool p.rst ++ BitVec.ofBool p.timeoutExt ++ BitVec.ofBool p.press ++ BitVec.ofBool p.pollEn
    ++ BitVec.ofBool p.tickEn ++ 0#1 ++ BitVec.ofBool p.irIn.toBit

/-- The encoder (30_encoding.md R81, R82). -/
def encode : Instr → StimulusWord
  | .nop => 0x00#8
  | .rise => 0x01#8
  | .fall => 0x02#8
  | .tick => 0x03#8
  | .timeout => 0x04#8
  | .take => 0x05#8
  | .press => 0x06#8
  | .reset => 0x07#8
  | .btnSample l => 0x08#8 ||| (BitVec.ofBool l.toBit).setWidth 8
  | .cycle pins => encodePins pins

/-- One row of the opcode table: a word spells the row's operation when `word &&& mask = pattern`. -/
structure OpcodeRow where
  mnemonic : String
  pattern : StimulusWord
  mask : StimulusWord
deriving DecidableEq, Repr

/-- Mnemonic, match and mask of each operation, as spec/opcode_table.json gives them. -/
def Instr.row : Instr → OpcodeRow
  | .nop => ⟨"NOP", 0x00#8, 0xFF#8⟩
  | .rise => ⟨"RISE", 0x01#8, 0xFF#8⟩
  | .fall => ⟨"FALL", 0x02#8, 0xFF#8⟩
  | .tick => ⟨"TICK", 0x03#8, 0xFF#8⟩
  | .timeout => ⟨"TIMEOUT", 0x04#8, 0xFF#8⟩
  | .take => ⟨"TAKE", 0x05#8, 0xFF#8⟩
  | .press => ⟨"PRESS", 0x06#8, 0xFF#8⟩
  | .reset => ⟨"RESET", 0x07#8, 0xFF#8⟩
  | .btnSample _ => ⟨"BTN_SAMPLE", 0x08#8, 0xFE#8⟩
  | .cycle _ => ⟨"CYCLE", 0x80#8, 0x82#8⟩

/-- The word matches the row. -/
def OpcodeRow.matchesWord (row : OpcodeRow) (w : StimulusWord) : Bool := w &&& row.mask == row.pattern

/-- The opcode table: the ten rows (30_encoding.md R70). -/
def opcodeRows : List OpcodeRow :=
  [Instr.nop.row, Instr.rise.row, Instr.fall.row, Instr.tick.row, Instr.timeout.row, Instr.take.row,
   Instr.press.row, Instr.reset.row, (Instr.btnSample .low).row, (Instr.cycle ⟨false, false, false, false, false, .low⟩).row]

/-- A whole byte trace decoded: the operations in order, or the first reserved word, which makes the
trace ill formed; a reserved word is never skipped (30_encoding.md R83, 95_test_vectors.md T45). -/
def decodeTrace : List StimulusWord → Except Decoded (List Instr)
  | [] => .ok []
  | w :: ws =>
    match decode w with
    | .operation i =>
      match decodeTrace ws with
      | .ok is => .ok (i :: is)
      | .error e => .error e
    | .reservedFormatE r => .error (.reservedFormatE r)
    | .reservedFormatP r => .error (.reservedFormatP r)

/-- The instruction the decoder reads from a table word. Every row has 8 bits and no later word
(30_encoding.md R80), so a number that needs more bits than the row has, or than 8, spells nothing. -/
def decodeTableWord (nbits w : Nat) : Option Instr :=
  if w < 2 ^ min nbits 8 then
    match decode (BitVec.ofNat 8 w) with
    | .operation i => some i
    | .reservedFormatE _ => none
    | .reservedFormatP _ => none
  else none

end Sys2Proof
end

