-- ==== Sys2Proof/Config.lean ====
section
/-! DEFINITION. The build-time parameters of IRDEC (spec/00_scope.md R10) as one record, the reference
configuration, and the free values the spec leaves undefined (spec/93_implementation_defined.md U1, U6).
No operation changes a parameter (10_state.md R35, 20_memory.md R58). -/

namespace Sys2Proof

/-- What a data pulse does when 32 bits are already written (00_scope.md R10, 40_pulse_decoder.md R109, conflict C1). -/
inductive OverrunPolicy where
  | ignore
  | wrap
deriving DecidableEq, Repr

/-- The parameters of 00_scope.md R10 that are neither fixed (`ACC_WIDTH`) nor derived (`TICK_MAX`,
`TIMEOUT_TICKS`) nor free at every RESET (`RESET_ACC`, `RESET_BITINDEX`). -/
structure Config where
  /-- `TICK_WIDTH` -/
  tickWidth : Nat
  /-- `DATA_ONE_THRESHOLD_TICKS`: a longer mark is a logical 1 -/
  dataOneThreshold : Nat
  /-- `START_THRESHOLD_TICKS`: a longer mark is a start marker -/
  startThreshold : Nat
  /-- `CODE_A` -/
  codeA : FrameWord
  /-- `CODE_B` -/
  codeB : FrameWord
  /-- `OVERRUN_POLICY` -/
  overrunPolicy : OverrunPolicy
  /-- `RESET_COMMAND` -/
  resetCommand : KnownCommand
  /-- `POS_WIDTH` -/
  posWidth : Nat
  /-- `POS_LEFT` -/
  posLeft : Nat
  /-- `POS_RIGHT` -/
  posRight : Nat
  /-- `DEBOUNCE_CONFIRMATIONS` -/
  debounceConfirmations : Nat
  /-- `INDEPENDENT_TIMEOUT`: read by the environment's duties only (41_tick_timer_timeout.md R124; log 10) -/
  independentTimeout : Bool
  /-- `TICK_PERIOD` in microseconds: timing only, read by no operation (70_reset_and_hazards.md R245) -/
  tickPeriodMicros : Nat
  /-- `DEBOUNCE_INTERVAL` in microseconds: timing only, read by no operation (43_manual_override.md R155) -/
  debounceIntervalMicros : Nat
deriving DecidableEq, Repr

namespace Config

/-- `TICK_MAX`, the largest count (00_scope.md R10). -/
def tickMax (c : Config) : Nat := 2 ^ c.tickWidth - 1

/-- `TIMEOUT_TICKS`, ticks from the start of a mark to the overflow (00_scope.md R10, 41_tick_timer_timeout.md R121). -/
def timeoutTicks (c : Config) : Nat := c.tickMax + 1

/-- `RESET_ACC` of the n-th reset: any 32-bit value (10_state.md R24, 93 U1). DESIGN CHOICE, log 4. -/
opaque freeResetAcc : Nat → FrameWord

/-- `RESET_BITINDEX` of the n-th reset: any value in 0..32 (10_state.md R25, 93 U1). DESIGN CHOICE, log 4. -/
opaque freeResetBitIndex : Nat → Fin (accWidth + 1)

/-- An uninterpreted number behind `POS_LEFT` (44_actuator_output.md R168, 93 U6). DESIGN CHOICE, log 6. -/
opaque freePosLeft : Nat

/-- An uninterpreted number behind `POS_RIGHT` (44_actuator_output.md R168, 93 U6). DESIGN CHOICE, log 6. -/
opaque freePosRight : Nat

/-- How much wider than necessary `POS_WIDTH` is (00_scope.md R10: open). DESIGN CHOICE, log 6. -/
opaque freePosSpare : Nat

/-- Any second setpoint but the first: `POS_LEFT ≠ POS_RIGHT` is all the spec requires (44_actuator_output.md R168). -/
def setpointOtherThan (left candidate : Nat) : Nat :=
  if candidate = left then left + 1 else candidate

/-- A width that holds both setpoints, with `spare` bits left over. -/
def widthHolding (left right spare : Nat) : Nat := (max left right).log2 + 1 + spare

/-- The reference configuration: the default column of 00_scope.md R10 (log 15); the setpoints and
their width, which have no default, are uninterpreted (log 6). -/
def reference : Config where
  tickWidth := 8
  dataOneThreshold := 16
  startThreshold := 40
  codeA := 0xAA55FB04#32
  codeB := 0xAD52FB04#32
  overrunPolicy := .ignore
  resetCommand := .cmdB
  posWidth := widthHolding freePosLeft (setpointOtherThan freePosLeft freePosRight) freePosSpare
  posLeft := freePosLeft
  posRight := setpointOtherThan freePosLeft freePosRight
  debounceConfirmations := 5
  independentTimeout := false
  tickPeriodMicros := 64
  debounceIntervalMicros := 1000

end Config

end Sys2Proof
end

