-- ==== Sys2Proof/Machine/State.lean ====
section
/-! DEFINITION. The architectural state of IRDEC as plain data (spec/10_state.md R20 to R31), the reasons a
step can stop, and the state after reset (spec/10_state.md R39, spec/70_reset_and_hazards.md R220, R221). -/

namespace Sys2Proof.Machine

open Sys2Proof

/-- `DecoderState`, the only control state (10_state.md R21). -/
inductive DecoderState where
  | waitingForMark
  | measuringMark
deriving DecidableEq, Repr

/-- The edge polarity the Edge Capture Source is armed for (10_state.md R23). -/
inductive EdgePolarity where
  | rising
  | falling
deriving DecidableEq, Repr

/-- The three width bands of a mark (30_encoding.md R85, 40_pulse_decoder.md R104). -/
inductive PulseClass where
  | start
  | one
  | zero
deriving DecidableEq, Repr

/-- The source's Command: what `Lookup` answers (10_state.md R31, 42_frame_dispatcher.md R138). -/
inductive Command where
  | known (k : KnownCommand)
  | unrecognized
deriving DecidableEq, Repr

/-- `Actuator.indicator` (10_state.md R27). -/
inductive Indicator where
  | off
  | on
deriving DecidableEq, Repr

/-- `Actuator.position` (10_state.md R27). -/
inductive Position where
  | left
  | right
deriving DecidableEq, Repr

/-- `Actuator`, the record of what the dispatcher last wrote (10_state.md R27, R28). -/
structure Actuator where
  indicator : Indicator
  position : Position
deriving DecidableEq, Repr

/-- `DebState` (10_state.md R29). -/
inductive DebState where
  | idle
  | confirm
deriving DecidableEq, Repr

/-- The state record: the ten fields of 10_state.md R20, and three fields of the model's own
(`cfg`, log 3; `stimuli`, log 1; `draws`, log 5), which are no state of IRDEC. Nothing else is stored: no
register file, no memory, no pending edge, no mask (R35 to R38). -/
structure State where
  /-- the build-time parameters; written by no operation (00_scope.md R10; log 3) -/
  cfg : Config
  /-- R21 -/
  decoderState : DecoderState
  /-- R22; at most `cfg.tickMax` in every reachable state (R33 J-b; log 9) -/
  tickCount : Nat
  /-- R24 -/
  frameAccumulator : FrameWord
  /-- R25 -/
  bitIndex : Nat
  /-- R26 -/
  signalCapturedFlag : Bool
  /-- R27 -/
  actuator : Actuator
  /-- R29 -/
  debState : DebState
  /-- R29 -/
  debCount : Nat
  /-- `ir_prev`, R30 -/
  irPrev : Level
  /-- how many free reset values have been drawn so far (log 5) -/
  draws : Nat
  /-- the stimulus words still to come, the next one first (log 1) -/
  stimuli : List StimulusWord
deriving DecidableEq, Repr

/-- No operation of IRDEC faults, traps or blocks (00_scope.md R14, 60_exceptions.md R190), so there is
no reason a step could fault: the type is empty. Raised by nobody. -/
inductive Fault where
deriving DecidableEq, Repr

/-- The reasons for which the model refuses a step. -/
inductive Refusal where
  /-- Raised by an arm of `exec` whose instruction has no meaning; no arm of this model raises it. Safe: the model stops. -/
  | notModelled (mnemonic : String)
  /-- Raised by `step` when the next stimulus word is reserved, which spells no operation and must be
  refused by name (30_encoding.md R83; log 8). Safe: the model stops where the hardware has no behaviour. -/
  | reservedStimulusWord (w : StimulusWord)
deriving DecidableEq, Repr

/-- The state after power-on or reset, in the reference configuration (10_state.md R39,
70_reset_and_hazards.md R220, R221). `FrameAccumulator` and `BitIndex` hold the spec's free values
`RESET_ACC`, `RESET_BITINDEX` (log 4). No stimulus is pending (log 1). -/
def State.reset : State where
  cfg := Config.reference
  decoderState := .waitingForMark
  tickCount := 0
  frameAccumulator := Config.freeResetAcc 0
  bitIndex := (Config.freeResetBitIndex 0).val
  signalCapturedFlag := false
  actuator := { indicator := .off, position := .right }
  debState := .idle
  debCount := 0
  irPrev := .high
  draws := 1
  stimuli := []

end Sys2Proof.Machine
end

