-- ==== Sys2Proof/Machine/Flags.lean ====
section
/-! DEFINITION. `SignalCapturedFlag`, the only flag of IRDEC (spec/10_state.md R26): its two writes. No other
condition code exists and no operation has a flag side effect beyond this bit. -/

namespace Sys2Proof.Machine

/-- The timeout path's write: set, and stay set if it was (10_state.md R26, 20_memory.md R54 O3). -/
def State.raiseCaptured (s : State) : State := { s with signalCapturedFlag := true }

/-- The dispatch path's write, and RESET's: clear (10_state.md R26, R32 I-b). -/
def State.clearCaptured (s : State) : State := { s with signalCapturedFlag := false }

end Sys2Proof.Machine
end

