-- ==== Sys2Proof/Machine/Operands.lean ====
section
/-! DEFINITION. The operands IRDEC assembles from its inputs (spec/30_encoding.md R74, R85, R91): the width of a
mark and its band, the level of the button line, the edges of the infrared line. -/

namespace Sys2Proof.Machine

/-- `PulseWidth`: the count read at a FALL, unsigned (10_state.md R31, 30_encoding.md R74). -/
def State.pulseWidth (s : State) : Nat := s.tickCount

/-- The band of a width: the START test is made first, and each bound belongs to the band below it
(40_pulse_decoder.md R104, 30_encoding.md R85). -/
def pulseClass (c : Config) (width : Nat) : PulseClass :=
  if c.startThreshold < width then .start
  else if c.dataOneThreshold < width then .one
  else .zero

/-- The button is active-low: a LOW sample reads "pressed" (43_manual_override.md R152, 30_encoding.md R91). -/
def readsPressed : Level → Bool
  | .low => true
  | .high => false

/-- `rise`: the line was LOW at the previous cycle and is HIGH now (45_pin_level_cycle.md R176). -/
def State.seesRise (s : State) (level : Level) : Bool := s.irPrev == .low && level == .high

/-- `fall`: the line was HIGH at the previous cycle and is LOW now (45_pin_level_cycle.md R176). -/
def State.seesFall (s : State) (level : Level) : Bool := s.irPrev == .high && level == .low

end Sys2Proof.Machine
end

