-- ==== Sys2Proof/Machine/Ops.lean ====
section
/-! DEFINITION. The shared operations: one write per register (spec/10_state.md R20), the functions of the state
that are not stored (R23, R28), the decoder's actions (spec/40_pulse_decoder.md R104 to R109), TimeoutAction
(spec/41_tick_timer_timeout.md R122), Lookup and Dispatch (spec/42_frame_dispatcher.md R138), and the fetch of
the next stimulus word. All arithmetic is on unsigned numbers (spec/40_pulse_decoder.md R112,
spec/41_tick_timer_timeout.md R125).

IRDEC takes no exception and has no return from one (spec/60_exceptions.md R190, R195, R196): serving an
interrupt is performing its operation, nothing is saved and nothing restored, and no edge or
timeout is ever pending (spec/10_state.md R38). `State.timeoutAction` is the
service the two timeout operations share. -/

namespace Sys2Proof.Machine

/-! ### Register writes -/

def State.writeDecoderState (s : State) (v : DecoderState) : State := { s with decoderState := v }

def State.writeTickCount (s : State) (v : Nat) : State := { s with tickCount := v }

def State.writeFrameAccumulator (s : State) (v : FrameWord) : State := { s with frameAccumulator := v }

def State.writeBitIndex (s : State) (v : Nat) : State := { s with bitIndex := v }

/-- Both fields change in the same step (44_actuator_output.md R169). -/
def State.writeActuator (s : State) (v : Actuator) : State := { s with actuator := v }

def State.writeDebState (s : State) (v : DebState) : State := { s with debState := v }

def State.writeDebCount (s : State) (v : Nat) : State := { s with debCount := v }

def State.writeIrPrev (s : State) (v : Level) : State := { s with irPrev := v }

/-- One more free reset value has been drawn (log 5). -/
def State.advanceDraws (s : State) : State := { s with draws := s.draws + 1 }

def State.writeStimuli (s : State) (v : List StimulusWord) : State := { s with stimuli := v }

/-! ### Functions of the state that are not stored -/

/-- `ArmedEdge(S)` (10_state.md R23). -/
def State.armedEdge (s : State) : EdgePolarity :=
  match s.decoderState with
  | .waitingForMark => .rising
  | .measuringMark => .falling

/-- `TimerRunning(S)` (10_state.md R23). -/
def State.timerRunning (s : State) : Bool := s.decoderState == .measuringMark

/-- `CurrentCommand(S)`, read off the indicator (10_state.md R28). -/
def State.currentCommand (s : State) : KnownCommand :=
  match s.actuator.indicator with
  | .on => .cmdA
  | .off => .cmdB

/-! ### The decoder's actions -/

/-- `StartAction()`: both registers to 0, always together (40_pulse_decoder.md R105). -/
def State.startAction (s : State) : State := (s.writeFrameAccumulator 0).writeBitIndex 0

/-- The frame word with bit `k` set (40_pulse_decoder.md R106: `acc | (1 << k)`). -/
def setBit (acc : FrameWord) (k : Nat) : FrameWord := acc ||| (1#32 <<< k)

/-- A data pulse written at position `target`: a ONE sets that bit, a ZERO writes nothing; then the
index advances by one (40_pulse_decoder.md R106, R107). -/
def State.appendAt (s : State) (target : Nat) (b : Bool) : State :=
  if b then (s.writeFrameAccumulator (setBit s.frameAccumulator target)).writeBitIndex (s.bitIndex + 1)
  else s.writeBitIndex (s.bitIndex + 1)

/-- `AppendBit(b)` under either overrun policy (40_pulse_decoder.md R109). -/
def State.appendBit (s : State) (b : Bool) : State :=
  match s.cfg.overrunPolicy with
  | .ignore => if s.bitIndex < accWidth then s.appendAt s.bitIndex b else s
  | .wrap => s.appendAt (s.bitIndex % accWidth) b

/-- `Classify(pw)`: exactly one of three actions (40_pulse_decoder.md R104). -/
def State.classify (s : State) (width : Nat) : State :=
  match pulseClass s.cfg width with
  | .start => s.startAction
  | .one => s.appendBit true
  | .zero => s.appendBit false

/-- `TimeoutAction()` (41_tick_timer_timeout.md R122). -/
def State.timeoutAction (s : State) : State := (s.writeDecoderState .waitingForMark).raiseCaptured

/-! ### The dispatcher -/

/-- `PairOf`, the command-to-actuator mapping (44_actuator_output.md R165, 30_encoding.md R76). -/
def pairOf : KnownCommand → Actuator
  | .cmdA => { indicator := .on, position := .left }
  | .cmdB => { indicator := .off, position := .right }

/-- The code of a known command (30_encoding.md R75). -/
def codeOf (c : Config) : KnownCommand → FrameWord
  | .cmdA => c.codeA
  | .cmdB => c.codeB

/-- The command the button toggles to (43_manual_override.md R150). -/
def otherCommand : KnownCommand → KnownCommand
  | .cmdA => .cmdB
  | .cmdB => .cmdA

/-- `Lookup(v)`: equality of all 32 bits with one of the two codes; every other word is unrecognized,
and neither the index nor the decoder's state is checked (42_frame_dispatcher.md R138, R139, 30_encoding.md R84). -/
def lookup (c : Config) (v : FrameWord) : Command :=
  if v = c.codeA then .known .cmdA
  else if v = c.codeB then .known .cmdB
  else .unrecognized

/-- `Dispatch(v, m)`: a known command writes its actuator pair, any other value writes nothing; the
source's `is_manual_override_code` changes nothing (42_frame_dispatcher.md R135, R138, R140, R141). -/
def State.dispatch (s : State) (v : FrameWord) (_isManualOverrideCode : Bool) : State :=
  match lookup s.cfg v with
  | .known k => s.writeActuator (pairOf k)
  | .unrecognized => s

/-! ### The next stimulus word -/

/-- The next stimulus word and the state with it removed; none when no stimulus is pending (log 1). -/
def State.fetch (s : State) : Option (StimulusWord × State) :=
  match s.stimuli with
  | [] => none
  | w :: rest => some (w, s.writeStimuli rest)

end Sys2Proof.Machine
end

