-- ==== Sys2Proof/Machine/Decoder.lean ====
section
/-! DEFINITION. The Pulse Decoder operations NOP, RISE and FALL (spec/40_pulse_decoder.md R100 to R112). Each operation is a
total function of the state (spec/00_scope.md R14); its meaning answers that state. -/

namespace Sys2Proof.Machine

/-- RISE: armed only in WAITING_FOR_MARK (40_pulse_decoder.md R100, R101). -/
def State.rise (s : State) : State :=
  match s.decoderState with
  | .waitingForMark => (s.writeTickCount 0).writeDecoderState .measuringMark
  | .measuringMark => s

/-- FALL: armed only in MEASURING_MARK; stop the timer, then classify the width (40_pulse_decoder.md R102, R103). -/
def State.fall (s : State) : State :=
  match s.decoderState with
  | .waitingForMark => s
  | .measuringMark => (s.writeDecoderState .waitingForMark).classify s.pulseWidth

/-- NOP (40_pulse_decoder.md R108). -/
def execNop (s : State) : Host.Outcome State Fault Refusal := .next s

/-- RISE (40_pulse_decoder.md R100, R101). -/
def execRise (s : State) : Host.Outcome State Fault Refusal := .next s.rise

/-- FALL (40_pulse_decoder.md R102 to R107, R109). -/
def execFall (s : State) : Host.Outcome State Fault Refusal := .next s.fall

end Sys2Proof.Machine
end

