-- ==== Sys2Proof/Machine/Dispatcher.lean ====
section
/-! DEFINITION. The Frame Dispatcher operation TAKE (spec/42_frame_dispatcher.md). -/

namespace Sys2Proof.Machine

/-- TAKE: held while the debouncer confirms; else an atomic test, sample and clear of the hand-off,
then Dispatch on the sampled word (42_frame_dispatcher.md R136, R137). -/
def State.take (s : State) : State :=
  match s.debState with
  | .confirm => s
  | .idle =>
    if s.signalCapturedFlag then s.clearCaptured.dispatch s.frameAccumulator false
    else s

/-- TAKE (42_frame_dispatcher.md R136 to R138). -/
def execTake (s : State) : Host.Outcome State Fault Refusal := .next s.take

end Sys2Proof.Machine
end

