-- ==== Sys2Proof/Machine/Override.lean ====
section
/-! DEFINITION. The Manual Override operations PRESS and BTN_SAMPLE (spec/43_manual_override.md). -/

namespace Sys2Proof.Machine

/-- PRESS: dispatch the code of the command that is not the current one (43_manual_override.md R150). -/
def State.press (s : State) : State :=
  s.dispatch (codeOf s.cfg (otherCommand s.currentCommand)) true

/-- One "released" sample inside the busy-wait: count it, or, when it is the last one asked for,
leave the busy-wait and perform PRESS in the same step (43_manual_override.md R154). -/
def State.confirmRelease (s : State) : State :=
  if s.debCount + 1 < s.cfg.debounceConfirmations then s.writeDebCount (s.debCount + 1)
  else ((s.writeDebCount 0).writeDebState .idle).press

/-- BTN_SAMPLE l (43_manual_override.md R152 to R154). -/
def State.btnSample (s : State) (l : Level) : State :=
  match s.debState with
  | .idle => if readsPressed l then (s.writeDebState .confirm).writeDebCount 0 else s
  | .confirm => if readsPressed l then s.writeDebCount 0 else s.confirmRelease

/-- PRESS (43_manual_override.md R150). -/
def execPress (s : State) : Host.Outcome State Fault Refusal := .next s.press

/-- BTN_SAMPLE l (43_manual_override.md R152 to R154). -/
def execBtnSample (l : Level) (s : State) : Host.Outcome State Fault Refusal := .next (s.btnSample l)

end Sys2Proof.Machine
end

