-- ==== Sys2Proof/Machine/System.lean ====
section
/-! DEFINITION. The operation RESET (spec/70_reset_and_hazards.md R220). -/

namespace Sys2Proof.Machine

/-- RESET: every field of the state record to its reset value; `RESET_ACC` and `RESET_BITINDEX` are
fresh free values at every RESET (70_reset_and_hazards.md R220; log 4). The configuration and the
stimuli still to come are no state of IRDEC and stay. -/
def State.resetAll (s : State) : State :=
  (((((((((s.writeDecoderState .waitingForMark).writeTickCount 0).writeFrameAccumulator
    (Config.freeResetAcc s.draws)).writeBitIndex (Config.freeResetBitIndex s.draws).val).clearCaptured).writeActuator
    (pairOf s.cfg.resetCommand)).writeDebState .idle).writeDebCount 0).writeIrPrev .high).advanceDraws

/-- RESET (70_reset_and_hazards.md R220). -/
def execReset (s : State) : Host.Outcome State Fault Refusal := .next s.resetAll

end Sys2Proof.Machine
end

