-- ==== Sys2Proof/Machine/Timer.lean ====
section
/-! DEFINITION. The Tick Timer and Frame Timeout operations TICK and TIMEOUT (spec/41_tick_timer_timeout.md;
the one timer of IRDEC, spec/60_exceptions.md R201). -/

namespace Sys2Proof.Machine

/-- TICK: a stopped timer does not count; a running one counts, or overflows: the count wraps to 0 and
the overflow is served in the same step (41_tick_timer_timeout.md R120, R121). Every count that is not
below `TICK_MAX` overflows (log 9). -/
def State.tick (s : State) : State :=
  match s.decoderState with
  | .waitingForMark => s
  | .measuringMark =>
    if s.tickCount < s.cfg.tickMax then s.writeTickCount (s.tickCount + 1)
    else (s.writeTickCount 0).timeoutAction

/-- TICK (41_tick_timer_timeout.md R120, R121). -/
def execTick (s : State) : Host.Outcome State Fault Refusal := .next s.tick

/-- TIMEOUT: TimeoutAction is its whole body, in either decoder state, whatever the main loop
does (41_tick_timer_timeout.md R122, R123, R126). -/
def execTimeout (s : State) : Host.Outcome State Fault Refusal := .next s.timeoutAction

end Sys2Proof.Machine
end

