-- ==== Sys2Proof/Machine/PinLevel.lean ====
section
/-! DEFINITION. The pin-level clock cycle CYCLE (spec/45_pin_level_cycle.md): a fixed-order composition of the
event-level operations. -/

namespace Sys2Proof.Machine

/-- An edge of the line is armed when its polarity is the one `ArmedEdge` names (45_pin_level_cycle.md R176). -/
def State.armedEdgeSeen (s : State) (level : Level) : Option EdgePolarity :=
  match s.armedEdge with
  | .rising => if s.seesRise level then some .rising else none
  | .falling => if s.seesFall level then some .falling else none

/-- `ovf`: the tick of this cycle finds the running timer at `TICK_MAX` (45_pin_level_cycle.md R177). -/
def State.tickOverflows (s : State) (pins : Pins) : Bool :=
  s.timerRunning && pins.tickEn && s.tickCount == s.cfg.tickMax

/-- The main-loop side of a cycle: TAKE, then PRESS (45_pin_level_cycle.md R177, R180). -/
def State.mainLoopSide (s : State) (pins : Pins) : State :=
  let taken := if pins.pollEn then s.take else s
  if pins.press then taken.press else taken

/-- The interrupt side of a cycle: at most one of overflow, external timeout, armed edge, tick, in that
order of priority (45_pin_level_cycle.md R177 to R179). -/
def State.interruptSide (s : State) (pins : Pins) : State :=
  if s.tickOverflows pins then s.tick
  else if pins.timeoutExt then s.timeoutAction
  else
    match s.armedEdgeSeen pins.irIn with
    | some .rising => s.rise
    | some .falling => s.fall
    | none => if pins.tickEn then s.tick else s

/-- CYCLE: RESET alone, else the main-loop side, the interrupt side, and the update of `ir_prev`
(45_pin_level_cycle.md R177). -/
def State.cycle (s : State) (pins : Pins) : State :=
  if pins.rst then s.resetAll
  else ((s.mainLoopSide pins).interruptSide pins).writeIrPrev pins.irIn

/-- CYCLE r,x,p,q,t,i (45_pin_level_cycle.md R177). -/
def execCycle (pins : Pins) (s : State) : Host.Outcome State Fault Refusal := .next (s.cycle pins)

end Sys2Proof.Machine
end

