-- ==== Sys2Proof/Machine/Dispatch.lean ====
section
/-! DEFINITION. `exec`: one arm per operation, each a direct call of its meaning (spec/30_encoding.md R70). -/

namespace Sys2Proof.Machine

def exec (i : Instr) (s : State) : Host.Outcome State Fault Refusal :=
  match i with
  | .nop => Sys2Proof.Machine.execNop s
  | .rise => Sys2Proof.Machine.execRise s
  | .fall => Sys2Proof.Machine.execFall s
  | .tick => Sys2Proof.Machine.execTick s
  | .timeout => Sys2Proof.Machine.execTimeout s
  | .take => Sys2Proof.Machine.execTake s
  | .press => Sys2Proof.Machine.execPress s
  | .reset => Sys2Proof.Machine.execReset s
  | .btnSample l => Sys2Proof.Machine.execBtnSample l s
  | .cycle pins => Sys2Proof.Machine.execCycle pins s

end Sys2Proof.Machine
end

