-- ==== Sys2Proof/Machine/Step.lean ====
section
/-! DEFINITION. One step: the next stimulus word is taken from the pending ones, decoded and performed
(spec/30_encoding.md R80, R83; log 1, log 2, log 8). -/

namespace Sys2Proof.Machine

/-- One step of the machine. With no stimulus pending the step is NOP, which stands for any instant at
which no stimulus reaches IRDEC (40_pulse_decoder.md R108, 00_scope.md R19; log 2). -/
def step (s : State) : Host.Outcome State Fault Refusal :=
  match s.fetch with
  | none => exec .nop s
  | some (w, rest) =>
    match decode w with
    | .operation i => exec i rest
    | .reservedFormatE r => .refused (.reservedStimulusWord r)
    | .reservedFormatP r => .refused (.reservedStimulusWord r)

/-- The state with a stimulus word of `nbits` bits placed where `step` takes its next one: in front of the
pending words (log 1). -/
def State.withFetchWord (s : State) (nbits w : Nat) : State :=
  s.writeStimuli (BitVec.ofNat 8 (w % 2 ^ nbits) :: s.stimuli)

end Sys2Proof.Machine
end

