-- ==== Sys2Proof/Machine/Pseudo.lean ====
section
/-! DEFINITION. The pseudo-operations of spec/30_encoding.md R87, each with its exact expansion. -/

namespace Sys2Proof.Machine.Pseudo

/-- `TICKS n` -/
def ticks (n : Nat) : List Instr := List.replicate n .tick

/-- `MARK n` = `RISE; TICKS n; FALL`. R87 gives this expansion for `n ≤ TICK_MAX`; that a larger `n` expands the same
way is a DESIGN CHOICE, log 18. -/
def mark (n : Nat) : List Instr := .rise :: (ticks n ++ [.fall])

/-- `SPACE n` = `TICKS n`, meant for WAITING_FOR_MARK -/
def space (n : Nat) : List Instr := ticks n

/-- `START` = `MARK 45` -/
def start : List Instr := mark 45

/-- `BIT0` = `MARK 5` -/
def bit0 : List Instr := mark 5

/-- `BIT1` = `MARK 30` -/
def bit1 : List Instr := mark 30

/-- `B(b)`: `BIT0` or `BIT1` -/
def bitMark (b : Bool) : List Instr := if b then bit1 else bit0

/-- `FRAME c` = `START; B(c[0]); ...; B(c[31])` -/
def frame (c : FrameWord) : List Instr :=
  start ++ (List.range accWidth).flatMap (fun k => bitMark (c.getLsbD k))

/-- `SILENCE` = `RISE; TICKS 256` -/
def silence : List Instr := .rise :: ticks 256

/-- `SEND c` = `FRAME c; SILENCE; TAKE` -/
def send (c : FrameWord) : List Instr := frame c ++ silence ++ [.take]

/-- `CLICK`: a bounce-free press and release with five confirmations -/
def click : List Instr :=
  [.btnSample .low, .btnSample .high, .btnSample .high, .btnSample .high, .btnSample .high, .btnSample .high]

end Sys2Proof.Machine.Pseudo
end

