-- ==== Sys2Proof/Machine/TraceText.lean ====
section
/-! DEFINITION. The textual trace (spec/30_encoding.md R86): one operation a line or separated by `;`, a comment
from `#` to the end of the line, mnemonics in capitals, the operand of BTN_SAMPLE and the six of CYCLE. The
pseudo-operations of R87 may stand in a trace too, as in spec/95_test_vectors.md (log 16). -/

namespace Sys2Proof.Machine.TraceText

/-- A character that may stand around a mnemonic and around each operand (log 16). -/
def isBlank (c : Char) : Bool := c == ' ' || c == '\t' || c == '\r'

/-- The text without the blanks around it; blanks inside stay (log 16). -/
def trim (cs : List Char) : List Char := ((cs.dropWhile isBlank).reverse.dropWhile isBlank).reverse

/-- The texts between commas; `cur` is the current one, reversed. -/
def splitCommas : List Char → List Char → List (List Char)
  | [], cur => [cur.reverse]
  | c :: cs, cur => if c == ',' then cur.reverse :: splitCommas cs [] else splitCommas cs (c :: cur)

/-- The separated operations of a trace, comments removed; `cur` is the current one, reversed. -/
def splitOps : List Char → List Char → Bool → List (List Char)
  | [], cur, _ => [cur.reverse]
  | c :: cs, cur, inComment =>
    if c == '\n' then cur.reverse :: splitOps cs [] false
    else if inComment then splitOps cs cur true
    else if c == '#' then splitOps cs cur true
    else if c == ';' then cur.reverse :: splitOps cs [] false
    else splitOps cs (c :: cur) false

/-- A digit of base `base`; hexadecimal letters in either case (log 16). -/
def digitValue (base : Nat) (c : Char) : Option Nat :=
  let v :=
    if '0' ≤ c && c ≤ '9' then c.toNat - '0'.toNat
    else if 'a' ≤ c && c ≤ 'f' then c.toNat - 'a'.toNat + 10
    else if 'A' ≤ c && c ≤ 'F' then c.toNat - 'A'.toNat + 10
    else base
  if v < base then some v else none

/-- A number's digits, most significant first; `acc` is the value read so far. -/
def parseDigits (base : Nat) : List Char → Nat → Option Nat
  | [], acc => some acc
  | c :: cs, acc =>
    match digitValue base c with
    | some v => parseDigits base cs (acc * base + v)
    | none => none

/-- A number: `0x` hexadecimal, `0b` binary, anything else decimal (00_scope.md R12). -/
def parseNumber : List Char → Option Nat
  | [] => none
  | '0' :: 'x' :: c :: cs => parseDigits 16 (c :: cs) 0
  | '0' :: 'b' :: c :: cs => parseDigits 2 (c :: cs) 0
  | c :: cs => parseDigits 10 (c :: cs) 0

/-- A frame word: a number of at most 32 bits. -/
def parseFrameWord (cs : List Char) : Option FrameWord :=
  match parseNumber cs with
  | some n => if n < 2 ^ accWidth then some (BitVec.ofNat accWidth n) else none
  | none => none

/-- A bit operand, `0` or `1`. -/
def parseBit : Char → Option Bool
  | '0' => some false
  | '1' => some true
  | _ => none

/-- The six operands of CYCLE in the order `r,x,p,q,t,i`, blanks around each allowed (log 16). -/
def parsePins (cs : List Char) : Option Pins :=
  match (splitCommas cs []).map trim with
  | [[r], [x], [p], [q], [t], [i]] => do
    some { rst := ← parseBit r, timeoutExt := ← parseBit x, press := ← parseBit p,
           pollEn := ← parseBit q, tickEn := ← parseBit t, irIn := Level.ofBit (← parseBit i) }
  | _ => none

/-- The operation with no operand that a mnemonic names. -/
def plainOps : List (List Char × List Instr) :=
  [("NOP".toList, [.nop]), ("RISE".toList, [.rise]), ("FALL".toList, [.fall]), ("TICK".toList, [.tick]),
   ("TIMEOUT".toList, [.timeout]), ("TAKE".toList, [.take]), ("PRESS".toList, [.press]), ("RESET".toList, [.reset]),
   ("START".toList, Pseudo.start), ("BIT0".toList, Pseudo.bit0), ("BIT1".toList, Pseudo.bit1),
   ("SILENCE".toList, Pseudo.silence), ("CLICK".toList, Pseudo.click)]

/-- The operations a mnemonic with an operand names. Any `n` is read for `MARK n`, a width above `TICK_MAX` too
(DESIGN CHOICE, log 18). -/
def parseWithOperand (mnemonic operand : List Char) : Option (List Instr) :=
  if mnemonic == "BTN_SAMPLE".toList then
    match operand with
    | [c] => (parseBit c).map fun b => [.btnSample (Level.ofBit b)]
    | _ => none
  else if mnemonic == "CYCLE".toList then (parsePins operand).map fun pins => [.cycle pins]
  else if mnemonic == "TICKS".toList then (parseNumber operand).map Pseudo.ticks
  else if mnemonic == "SPACE".toList then (parseNumber operand).map Pseudo.space
  else if mnemonic == "MARK".toList then (parseNumber operand).map Pseudo.mark
  else if mnemonic == "FRAME".toList then (parseFrameWord operand).map Pseudo.frame
  else if mnemonic == "SEND".toList then (parseFrameWord operand).map Pseudo.send
  else none

/-- One operation: nothing but blanks is no operation, else a mnemonic and, after a blank, its operands. R86 says
nothing of blanks: that they may stand around a mnemonic and around each operand, and nowhere inside one (`TICKS 1 0`
is no trace), is a DESIGN CHOICE, log 16. -/
def parseOp (cs : List Char) : Option (List Instr) :=
  let body := trim cs
  let mnemonic := body.takeWhile (fun c => !isBlank c)
  let operand := trim (body.dropWhile (fun c => !isBlank c))
  match mnemonic, operand with
  | [], _ => some []
  | _, [] => plainOps.lookup mnemonic
  | _, _ => parseWithOperand mnemonic operand

/-- The operations of a list of separated texts, or none when one of them is no operation. -/
def parseOps : List (List Char) → Option (List Instr)
  | [] => some []
  | op :: ops => do
    let is ← parseOp op
    let rest ← parseOps ops
    some (is ++ rest)

/-- A textual trace as the operations it spells. -/
def parseTrace (cs : List Char) : Option (List Instr) := parseOps (splitOps cs [] false)

/-- A bit as a trace writes it. -/
def bitText (b : Bool) : String := if b then "1" else "0"

/-- An operation as a trace writes it (30_encoding.md R86). -/
def render (i : Instr) : String :=
  match i with
  | .btnSample l => i.row.mnemonic ++ " " ++ bitText l.toBit
  | .cycle p =>
    i.row.mnemonic ++ " " ++ bitText p.rst ++ "," ++ bitText p.timeoutExt ++ "," ++ bitText p.press ++ ","
      ++ bitText p.pollEn ++ "," ++ bitText p.tickEn ++ "," ++ bitText p.irIn.toBit
  | .nop | .rise | .fall | .tick | .timeout | .take | .press | .reset => i.row.mnemonic

end Sys2Proof.Machine.TraceText
end

