-- ==== Sys2Proof/Machine/Wire.lean ====
section
/-! DEFINITION. The wire frame, format W (spec/30_encoding.md R71, R72), as intervals of the input line in the
source's reference durations, and a sampled line at the pin level (spec/45_pin_level_cycle.md R176,
spec/95_test_vectors.md Program 4). The durations are reference values of the environment; no operation
depends on one (spec/70_reset_and_hazards.md R245; log 17). -/

namespace Sys2Proof.Machine.Wire

/-- One interval of the line: its level and how long it lasts. -/
structure Interval where
  level : Level
  micros : Nat
deriving DecidableEq, Repr

/-- The low part of the start sequence: about 8 ms (R71). -/
def startLowMicros : Nat := 8000

/-- The start mark: about 13.4 ms (R71). -/
def startHighMicros : Nat := 13400

/-- A space: about 0.6 ms (R71). -/
def spaceMicros : Nat := 600

/-- The mark of a data bit: about 0.6 ms for 0, 1.68 ms for 1 (R72). -/
def markMicros (b : Bool) : Nat := if b then 1680 else 600

/-- Data bit `k`: its space, then its mark (R72 rows 3+2k and 4+2k). -/
def bitIntervals (b : Bool) : List Interval := [⟨.low, spaceMicros⟩, ⟨.high, markMicros b⟩]

/-- The whole frame `c`: idle, start sequence, 32 data bits least significant first, trailing space,
silence (R72, R73; `idle` and `silence` are the environment's). -/
def frame (idle silence : Nat) (c : FrameWord) : List Interval :=
  [⟨.high, idle⟩, ⟨.low, startLowMicros⟩, ⟨.high, startHighMicros⟩]
    ++ (List.range accWidth).flatMap (fun k => bitIntervals (c.getLsbD k))
    ++ [⟨.low, spaceMicros⟩, ⟨.high, silence⟩]

/-- The width a mark of `micros` is measured as: the number of tick instants strictly between its edges, when the
ticks fall at `phase` after the rising edge and once every `TICK_PERIOD` from there (70_reset_and_hazards.md R240,
45_pin_level_cycle.md R179; whole microseconds, log 17). -/
def tickInstantsBetween (c : Config) (phase micros : Nat) : Nat :=
  Nat.count (fun t => (t + 1) % c.tickPeriodMicros = phase) (micros - 1)

/-- Duration / `TICK_PERIOD`, rounded to the nearest number, a half upwards (log 17). -/
def roundedTicks (c : Config) (micros : Nat) : Nat := (2 * micros + c.tickPeriodMicros) / (2 * c.tickPeriodMicros)

/-- The widths a mark of `micros` can be measured as: the rounded quotient, one less, or one more
(70_reset_and_hazards.md R240). -/
def measuredWidths (c : Config) (micros : Nat) : List Nat :=
  (List.range (roundedTicks c micros + 2)).drop (roundedTicks c micros - 1)

/-- One clock cycle with the line at `level`, `tick_en` and `poll_en` high, all else low. -/
def lineCycle (level : Level) : Instr :=
  .cycle { rst := false, timeoutExt := false, press := false, pollEn := true, tickEn := true, irIn := level }

/-- A sampled line: one clock cycle per sample. -/
def lineCycles (levels : List Level) : List Instr := levels.map lineCycle

end Sys2Proof.Machine.Wire
end

