-- ==== Sys2Proof/Machine/Encodings.lean ====
section
/-! DEFINITION. The bit values of the enumerations, wherever a field is shown as bits (spec/30_encoding.md R91). -/

namespace Sys2Proof.Machine

/-- WAITING_FOR_MARK = 0, MEASURING_MARK = 1. -/
def DecoderState.toBits : DecoderState → BitVec 1
  | .waitingForMark => 0
  | .measuringMark => 1

/-- OFF = 0, ON = 1. -/
def Indicator.toBits : Indicator → BitVec 1
  | .off => 0
  | .on => 1

/-- LEFT = 0, RIGHT = 1. -/
def Position.toBits : Position → BitVec 1
  | .left => 0
  | .right => 1

/-- CmdA = 0, CmdB = 1, Unrecognized = 2. -/
def Command.toBits : Command → BitVec 2
  | .known .cmdA => 0
  | .known .cmdB => 1
  | .unrecognized => 2

/-- DB_IDLE = 0, DB_CONFIRM = 1. -/
def DebState.toBits : DebState → BitVec 1
  | .idle => 0
  | .confirm => 1

/-- LOW = 0, HIGH = 1. -/
def levelBits (l : Level) : BitVec 1 := BitVec.ofBool l.toBit

end Sys2Proof.Machine
end

