-- ==== Sys2Proof/Machine/Outputs.lean ====
section
/-! DEFINITION. The output channels, the whole observable output of IRDEC (spec/44_actuator_output.md R166 to
R168, spec/30_encoding.md R90): functions of the state, held between writes. -/

namespace Sys2Proof.Machine

/-- The output ports of the pin-level wrapper (30_encoding.md R90). -/
structure Outputs where
  /-- the binary indicator channel, 1 = ON -/
  indicator : BitVec 1
  /-- the selected setpoint, 0 = LEFT, 1 = RIGHT -/
  posSel : BitVec 1
  /-- the setpoint on the position channel, a number of `POS_WIDTH` bits -/
  position : Nat
deriving DecidableEq, Repr

/-- The second stage of the multiplexer: `POS_LEFT` for LEFT, `POS_RIGHT` for RIGHT (44_actuator_output.md R167). -/
def setpointOf (c : Config) : Position → Nat
  | .left => c.posLeft
  | .right => c.posRight

/-- What the output channels carry in a state (44_actuator_output.md R166). -/
def State.outputs (s : State) : Outputs where
  indicator := s.actuator.indicator.toBits
  posSel := s.actuator.position.toBits
  position := setpointOf s.cfg s.actuator.position

end Sys2Proof.Machine
end

