-- ==== Sys2Proof/Machine/Run.lean ====
section
/-! DEFINITION. A run: a sequence of operations performed one after the other, each on the state the one before
left (spec/20_memory.md R53). -/

namespace Sys2Proof.Machine

/-- The operations of a list performed in order, stopping at the first that gives no next state. -/
def runOps : List Instr → State → Host.Outcome State Fault Refusal
  | [], s => .next s
  | i :: is, s =>
    match exec i s with
    | .next t => runOps is t
    | .fault r => .fault r
    | .refused r => .refused r

/-- The operation `i` performed `n` times (30_encoding.md R87 `TICKS n`). -/
def runTimes (n : Nat) (i : Instr) (s : State) : Host.Outcome State Fault Refusal :=
  runOps (List.replicate n i) s

end Sys2Proof.Machine
end

