-- ==== Sys2Proof/WellFormed.lean ====
section
/-! DEFINITION. What a well-formed configuration is (spec/00_scope.md R11) and which operations an
environment may issue under a configuration (spec/41_tick_timer_timeout.md R124, spec/30_encoding.md R90).
Every term of Instr is well formed as syntax: its operands are typed exactly as wide as their fields
(30_encoding.md R81, R82), so nothing can be out of range. -/

namespace Sys2Proof

namespace Config

/-- The three classification bands are non-empty, disjoint and exhaustive (00_scope.md R11, conflict C14). -/
abbrev BandsOrdered (c : Config) : Prop :=
  c.dataOneThreshold < c.startThreshold ∧ c.startThreshold < c.tickMax

/-- `CODE_A ≠ CODE_B` (00_scope.md R11). -/
abbrev CodesDiffer (c : Config) : Prop := c.codeA ≠ c.codeB

/-- `POS_LEFT ≠ POS_RIGHT` (44_actuator_output.md R168). -/
abbrev SetpointsDiffer (c : Config) : Prop := c.posLeft ≠ c.posRight

/-- Both setpoints are values of `POS_WIDTH` bits (44_actuator_output.md R168). -/
abbrev SetpointsFit (c : Config) : Prop :=
  c.posLeft < 2 ^ c.posWidth ∧ c.posRight < 2 ^ c.posWidth

/-- At least one confirmation is asked for. DEDUCED from invariant J-e of 10_state.md R33, log 7. -/
abbrev ConfirmsAtLeastOnce (c : Config) : Prop := 1 ≤ c.debounceConfirmations

/-- The constraints the parameters must satisfy (00_scope.md R11, 44_actuator_output.md R168, log 7). -/
abbrev WellFormed (c : Config) : Prop :=
  c.BandsOrdered ∧ c.CodesDiffer ∧ c.SetpointsDiffer ∧ c.SetpointsFit ∧ c.ConfirmsAtLeastOnce

/-- What the source's scenarios fix about the two thresholds: 5 ticks is a 0, 30 ticks is a 1,
45 ticks is a start (00_scope.md R11, 91_not_in_source.md N2). -/
abbrev MeetsScenarios (c : Config) : Prop :=
  5 ≤ c.dataOneThreshold ∧ c.dataOneThreshold ≤ 29 ∧ 30 ≤ c.startThreshold ∧ c.startThreshold ≤ 44

/-- Both command codes have bit 31 set, as `CODE_A` and `CODE_B` do (30_encoding.md R75). -/
abbrev CodesUseLastBit (c : Config) : Prop :=
  c.codeA.getLsbD 31 = true ∧ c.codeB.getLsbD 31 = true

end Config

/-- The operations an environment issues under configuration `c`: an external timeout, as a TIMEOUT
word or on pin `timeout_ext`, exists only with `INDEPENDENT_TIMEOUT = true` (41_tick_timer_timeout.md
R124, 30_encoding.md R90). A duty of the environment: no operation checks it (log 10). -/
def Instr.AdmittedBy (c : Config) : Instr → Bool
  | .timeout => c.independentTimeout
  | .cycle pins => !pins.timeoutExt || c.independentTimeout
  | .nop | .rise | .fall | .tick | .take | .press | .reset | .btnSample _ => true

end Sys2Proof
end

