-- ==== Sys2Proof/Safety.lean ====
section
/-! DEFINITION. What the claims about IRDEC speak of: the invariants of its states (spec/10_state.md R32, R33,
spec/45_pin_level_cycle.md R181), traces without a reserved word (spec/30_encoding.md R83), and the duties of
the environment (spec/70_reset_and_hazards.md R222, spec/43_manual_override.md R151). A run is safe when no
step of it is refused; a refusal is raised by a reserved word only. -/

namespace Sys2Proof

open Machine

/-- J-a: the actuator holds one of the two pairs (10_state.md R33). -/
abbrev LegalActuator (a : Actuator) : Prop := a = pairOf .cmdA ∨ a = pairOf .cmdB

/-- The invariants of every reachable state under a well-formed configuration (10_state.md R32, R33). -/
structure Inv (s : State) : Prop where
  /-- the parameters satisfy 00_scope.md R11 -/
  config : s.cfg.WellFormed
  /-- J-a -/
  actuator : LegalActuator s.actuator
  /-- J-b -/
  tickCount : s.tickCount ≤ s.cfg.tickMax
  /-- I-c: under `ignore`, `BitIndex` never exceeds the accumulator's width -/
  bitIndex : s.cfg.overrunPolicy = .ignore → s.bitIndex ≤ accWidth
  /-- J-e, first half -/
  debCount : s.debCount < s.cfg.debounceConfirmations
  /-- J-e, second half -/
  idleCount : s.debState = .idle → s.debCount = 0

/-- K-a: at the pin level the line was HIGH at the last cycle of a running measurement (45_pin_level_cycle.md R181). -/
def PinLevelInv (s : State) : Prop := s.decoderState = .measuringMark → s.irPrev = .high

/-- What a start pulse establishes and every data pulse keeps: the bits not yet written are 0 (10_state.md R33 J-c). -/
def UnwrittenBitsClear (s : State) : Prop :=
  ∀ k, s.bitIndex ≤ k → k < accWidth → s.frameAccumulator.getLsbD k = false

/-- The word spells an operation. -/
def spellsOperation (w : StimulusWord) : Bool :=
  match decode w with
  | .operation _ => true
  | .reservedFormatE _ => false
  | .reservedFormatP _ => false

/-- A byte trace with no reserved word (30_encoding.md R83). -/
def WellFormedTrace (ws : List StimulusWord) : Bool := ws.all spellsOperation

/-- The decoder's part of the state and what it reads: all that RISE, FALL, TICK and TIMEOUT may look at
(60_exceptions.md R200, 20_memory.md R54 O5, 10_state.md R34). -/
def SameDecoderPart (s t : State) : Prop :=
  s.cfg = t.cfg ∧ s.decoderState = t.decoderState ∧ s.tickCount = t.tickCount
    ∧ s.frameAccumulator = t.frameAccumulator ∧ s.bitIndex = t.bitIndex

/-- The main loop's own part of the state (60_exceptions.md R200). -/
def SameMainLoopPart (s t : State) : Prop :=
  s.actuator = t.actuator ∧ s.debState = t.debState ∧ s.debCount = t.debCount

/-- The fields no operation but RESET and CYCLE touches: the parameters, `ir_prev`, the drawn free values and the
stimuli still to come. -/
def SameOutside (s t : State) : Prop :=
  s.cfg = t.cfg ∧ s.irPrev = t.irPrev ∧ s.draws = t.draws ∧ s.stimuli = t.stimuli

/-- How a model is driven: at the event level with the debouncer included, at the event level with it left
out, or at the pin level (00_scope.md R6, R15, 43_manual_override.md R151, 45_pin_level_cycle.md R175). -/
inductive Discipline where
  | eventWithDebouncer
  | eventWithoutDebouncer
  | pinLevel
deriving DecidableEq, Repr

/-- The operations a discipline issues: with the debouncer PRESS is never a stimulus of its own, without it
BTN_SAMPLE is not issued, and the pin level issues CYCLE only (43_manual_override.md R151, 45_pin_level_cycle.md R175). -/
def Discipline.admits : Discipline → Instr → Bool
  | .eventWithDebouncer, .press => false
  | .eventWithDebouncer, .cycle _ => false
  | .eventWithoutDebouncer, .btnSample _ => false
  | .eventWithoutDebouncer, .cycle _ => false
  | .pinLevel, .cycle _ => true
  | .pinLevel, _ => false
  | .eventWithDebouncer, _ => true
  | .eventWithoutDebouncer, _ => true

/-- The main-loop operations a clock cycle composes: TAKE, then PRESS (the pseudocode of 45_pin_level_cycle.md R177). -/
def mainLoopOps (pins : Pins) : List Instr :=
  (if pins.pollEn then [.take] else []) ++ (if pins.press then [.press] else [])

/-- The interrupt operation a clock cycle composes, none or one, chosen by the decoder's state before the cycle
(the pseudocode of 45_pin_level_cycle.md R177). -/
def interruptOps (s : State) (pins : Pins) : List Instr :=
  if s.decoderState = .measuringMark ∧ pins.tickEn = true ∧ s.tickCount = s.cfg.tickMax then [.tick]
  else if pins.timeoutExt = true then [.timeout]
  else if s.irPrev = .low ∧ pins.irIn = .high ∧ s.decoderState = .waitingForMark then [.rise]
  else if s.irPrev = .high ∧ pins.irIn = .low ∧ s.decoderState = .measuringMark then [.fall]
  else if pins.tickEn = true then [.tick]
  else []

end Sys2Proof
end

