-- ==== Sys2Proof/Certificates/Slice0/Obligations.lean ====
section
/-! DEFINITION. The statements about IRDEC for the provers. Each docstring names the rule of spec/ it formalises.
A statement marked "derived" rests on something the spec itself marks as its own decision (D<n> of
spec/92_eei_decisions.md) or inference, or on a choice of this model (log n). Every statement holds for every
configuration that meets its hypotheses: both overrun policies, every pair of thresholds, every tick width. -/

open Sys2Proof Sys2Proof.Machine

/-! ## Words and steps -/

/-- A pending word that spells an operation is taken off the trace and its operation performed; with nothing
pending a step is NOP. Derived: the trace as a field of the state is the model's choice (log 1, log 2). -/
def Obligations.StepPerformsDecodedOperation : Prop :=
  (∀ (s : State) (w : StimulusWord) (ws : List StimulusWord) (i : Instr),
    s.stimuli = w :: ws → decode w = .operation i → step s = exec i { s with stimuli := ws }) ∧
  (∀ s : State, s.stimuli = [] → step s = exec .nop s)

/-- The reserved words, `0x0A` to `0x7F` and those with bit 7 and bit 1 set, are refused by name and never performed.
Derived: decision D19; log 8. -/
def Obligations.ReservedWordsAreRefused : Prop :=
  ∀ (s : State) (w : StimulusWord) (ws : List StimulusWord), s.stimuli = w :: ws →
    ((0x0A#8 ≤ w ∧ w ≤ 0x7F#8) ∨ (w.getLsbD 7 = true ∧ w.getLsbD 1 = true)) →
    step s = .refused (.reservedStimulusWord w)

/-- Decoding the encoding of an operation gives it back, with every operand. Derived: decision D14. -/
def Obligations.DecodeOfEncodeIsIdentity : Prop :=
  ∀ i : Instr, decode (encode i) = .operation i

/-- A word that spells an operation is that operation's encoding: no two words spell the same one. Derived: decision D14. -/
def Obligations.EncodeOfDecodeIsIdentity : Prop :=
  ∀ (w : StimulusWord) (i : Instr), decode w = .operation i → encode i = w

/-- The rows of the opcode table never overlap: a word that spells an operation matches that operation's row and
no other, a reserved word matches none. Derived: decision D14. -/
def Obligations.ExactlyOneOpcodeRowMatches : Prop :=
  ∀ w : StimulusWord,
    (∀ i, decode w = .operation i → opcodeRows.filter (fun row => row.matchesWord w) = [i.row]) ∧
    (spellsOperation w = false → opcodeRows.filter (fun row => row.matchesWord w) = [])

/-- Words written out from the encoding tables of 30_encoding.md R81 and R82. Derived: decision D14. -/
def Obligations.SpecWordsDecodeAsWritten : Prop :=
  decode 0b00000000#8 = .operation .nop ∧ decode 0b00000001#8 = .operation .rise ∧
  decode 0b00000010#8 = .operation .fall ∧ decode 0b00000101#8 = .operation .take ∧
  decode 0b00001000#8 = .operation (.btnSample .low) ∧ decode 0b00001001#8 = .operation (.btnSample .high) ∧
  decode 0b10011001#8 = .operation (.cycle ⟨false, false, true, true, false, .high⟩) ∧
  decode 0b11100100#8 = .operation (.cycle ⟨true, true, false, false, true, .low⟩)

/-- An operation written as text reads back as itself. Derived: decision D14; log 16. -/
def Obligations.RenderedOperationParsesBack : Prop :=
  ∀ i : Instr, TraceText.parseTrace (TraceText.render i).toList = some [i]

/-- A trace with no reserved word never stops: any number of steps can be made. Derived: R14 and R83 (log 1). -/
def Obligations.WellFormedTraceNeverStops : Prop :=
  ∀ (n : Nat) (s : State), WellFormedTrace s.stimuli = true →
    ∃ t, Host.Core.run Sys2Proof.core n s = .next t ∧ WellFormedTrace t.stimuli = true ∧ t.stimuli = s.stimuli.drop n

/-! ## What each operation does -/

/-- R190: no operation raises anything: each answers a next state, in every state and with every operand. (There is no
reason a step could fault: the type of faults is empty.) -/
def Obligations.EveryOperationIsTotal : Prop :=
  (∀ (i : Instr) (s : State), ∃ t, exec i s = .next t) ∧ (∀ _f : Fault, False)

/-- NOP changes nothing (40_pulse_decoder.md section 4). Derived: NOP is the spec's own operation, decision D14. -/
def Obligations.NopChangesNothing : Prop :=
  encode .nop = 0x00#8 ∧ ∀ s : State, exec .nop s = .next s

/-- R100: RISE in WAITING_FOR_MARK restarts the timer and enters MEASURING_MARK; nothing else changes. -/
def Obligations.RiseStartsMeasurement : Prop :=
  encode .rise = 0x01#8 ∧
  ∀ s : State, s.decoderState = .waitingForMark →
    exec .rise s = .next { s with tickCount := 0, decoderState := .measuringMark }

/-- An edge of the polarity that is not armed changes nothing. Derived: decision D23. -/
def Obligations.UnarmedEdgesChangeNothing : Prop :=
  (∀ s : State, s.decoderState = .measuringMark → exec .rise s = .next s) ∧
  (∀ s : State, s.decoderState = .waitingForMark → exec .fall s = .next s)

/-- R105: a FALL that ends a start pulse resets accumulator and index together, whatever they and the flag held,
and changes nothing else but the decoder's state; no other event-level operation brings either register to 0 (RESET, which
writes a free value, is not spoken of). -/
def Obligations.StartPulseResetsFrame : Prop :=
  (∀ s : State, s.decoderState = .measuringMark → s.cfg.startThreshold < s.tickCount →
    exec .fall s = .next { s with decoderState := .waitingForMark, frameAccumulator := 0, bitIndex := 0 }) ∧
  (∀ (i : Instr) (s t : State), i ≠ .reset → (∀ pins, i ≠ .cycle pins) → exec i s = .next t →
    ((s.frameAccumulator ≠ 0 ∧ t.frameAccumulator = 0) ∨ (s.bitIndex ≠ 0 ∧ t.bitIndex = 0)) →
    i = .fall ∧ s.decoderState = .measuringMark ∧ s.cfg.startThreshold < s.tickCount)

/-- R106: a FALL that ends a ONE pulse sets exactly the bit at the index before the increment. -/
def Obligations.OnePulseSetsIndexedBit : Prop :=
  ∀ s : State, s.decoderState = .measuringMark → s.cfg.dataOneThreshold < s.tickCount →
    s.tickCount ≤ s.cfg.startThreshold → s.bitIndex ≤ 31 →
    exec .fall s = .next { s with
      decoderState := .waitingForMark
      frameAccumulator := s.frameAccumulator ||| (1#32 <<< s.bitIndex)
      bitIndex := s.bitIndex + 1 } ∧
    (∀ k, k < 32 → (s.frameAccumulator ||| (1#32 <<< s.bitIndex)).getLsbD k =
      (s.frameAccumulator.getLsbD k || decide (k = s.bitIndex)))

/-- R107: a FALL that ends a ZERO pulse advances the index only. -/
def Obligations.ZeroPulseAdvancesIndex : Prop :=
  ∀ s : State, s.cfg.WellFormed → s.decoderState = .measuringMark → s.tickCount ≤ s.cfg.dataOneThreshold →
    s.bitIndex ≤ 31 →
    exec .fall s = .next { s with decoderState := .waitingForMark, bitIndex := s.bitIndex + 1 }

/-- A data pulse when all 32 positions are written: dropped under `ignore`, applied modulo 32 under `wrap`.
Derived: conflict C1, decision D5. -/
def Obligations.OverrunPulseFollowsPolicy : Prop :=
  ∀ s : State, s.decoderState = .measuringMark → s.tickCount ≤ s.cfg.startThreshold → 32 ≤ s.bitIndex →
    (s.cfg.overrunPolicy = .ignore → exec .fall s = .next { s with decoderState := .waitingForMark }) ∧
    (s.cfg.overrunPolicy = .wrap → s.cfg.dataOneThreshold < s.tickCount →
      exec .fall s = .next { s with
        decoderState := .waitingForMark
        frameAccumulator := s.frameAccumulator ||| (1#32 <<< (s.bitIndex % 32))
        bitIndex := s.bitIndex + 1 }) ∧
    (s.cfg.overrunPolicy = .wrap → s.tickCount ≤ s.cfg.dataOneThreshold →
      exec .fall s = .next { s with decoderState := .waitingForMark, bitIndex := s.bitIndex + 1 })

/-- R120: a TICK counts by exactly one while the timer runs below its maximum, and does nothing while it is stopped. -/
def Obligations.TickCountsOnlyWhileRunning : Prop :=
  encode .tick = 0x03#8 ∧
  (∀ s : State, s.decoderState = .measuringMark → s.tickCount < s.cfg.tickMax →
    exec .tick s = .next { s with tickCount := s.tickCount + 1 }) ∧
  (∀ s : State, s.decoderState = .waitingForMark → exec .tick s = .next s)

/-- The TICK that finds the running timer at `TICK_MAX` wraps the count and serves the timeout in the same step.
Derived: decision D6. -/
def Obligations.TickOverflowServesTimeout : Prop :=
  ∀ s : State, s.decoderState = .measuringMark → s.tickCount = s.cfg.tickMax →
    exec .tick s = .next { s with tickCount := 0, decoderState := .waitingForMark, signalCapturedFlag := true }

/-- TIMEOUT in either decoder state re-arms the decoder and raises the flag; it writes neither count, accumulator nor
index. Derived: decisions D7, D21. -/
def Obligations.TimeoutPublishesFrame : Prop :=
  encode .timeout = 0x04#8 ∧
  ∀ s : State, exec .timeout s = .next { s with decoderState := .waitingForMark, signalCapturedFlag := true }

/-- TAKE with the flag set clears it and acts on the accumulator as it stands; with the flag clear it changes nothing.
Derived: atomicity is decision D10. -/
def Obligations.TakeConsumesHandOff : Prop :=
  encode .take = 0x05#8 ∧
  (∀ s : State, s.debState = .idle → s.signalCapturedFlag = true → s.frameAccumulator = s.cfg.codeA →
    exec .take s = .next { s with signalCapturedFlag := false, actuator := ⟨.on, .left⟩ }) ∧
  (∀ s : State, s.cfg.CodesDiffer → s.debState = .idle → s.signalCapturedFlag = true → s.frameAccumulator = s.cfg.codeB →
    exec .take s = .next { s with signalCapturedFlag := false, actuator := ⟨.off, .right⟩ }) ∧
  (∀ s : State, s.debState = .idle → s.signalCapturedFlag = true → s.frameAccumulator ≠ s.cfg.codeA →
    s.frameAccumulator ≠ s.cfg.codeB → exec .take s = .next { s with signalCapturedFlag := false }) ∧
  (∀ s : State, s.debState = .idle → s.signalCapturedFlag = false → exec .take s = .next s)

/-- TAKE while the debouncer confirms changes nothing, so the flag stays as it is. Derived: the debouncer's own hold is
decision D18. -/
def Obligations.HeldTakeChangesNothing : Prop :=
  ∀ s : State, s.debState = .confirm → exec .take s = .next s

/-- R138: Dispatch compares all 32 bits with the two codes and writes nothing but the actuator. -/
def Obligations.DispatchMapsCodesToPairs : Prop :=
  ∀ (s : State) (v : FrameWord) (m : Bool),
    (v = s.cfg.codeA → s.dispatch v m = { s with actuator := ⟨.on, .left⟩ }) ∧
    (v ≠ s.cfg.codeA → v = s.cfg.codeB → s.dispatch v m = { s with actuator := ⟨.off, .right⟩ }) ∧
    (v ≠ s.cfg.codeA → v ≠ s.cfg.codeB → s.dispatch v m = s)

/-- Dispatching a value twice is dispatching it once, through whichever inputs of the multiplexer. Derived: decision D11
and the spec's own inference from its rule of Dispatch (42_frame_dispatcher.md section 3). -/
def Obligations.DispatchIsIdempotent : Prop :=
  ∀ (s : State) (v : FrameWord) (m₁ m₂ m₃ : Bool), (s.dispatch v m₁).dispatch v m₂ = s.dispatch v m₃

/-- PRESS toggles between the two commands' pairs and touches nothing else. Derived: the current command is read off
the indicator, decision D12. -/
def Obligations.PressTogglesCommand : Prop :=
  encode .press = 0x06#8 ∧
  (∀ s : State, s.cfg.CodesDiffer → s.actuator.indicator = .on →
    exec .press s = .next { s with actuator := ⟨.off, .right⟩ }) ∧
  (∀ s : State, s.cfg.CodesDiffer → s.actuator.indicator = .off →
    exec .press s = .next { s with actuator := ⟨.on, .left⟩ }) ∧
  (∀ s : State, s.cfg.CodesDiffer → LegalActuator s.actuator → runOps [.press, .press] s = .next s)

/-- BTN_SAMPLE while idle: a pressed sample begins the busy-wait, a released one does nothing. Derived: decision D18. -/
def Obligations.IdleSampleDetectsPress : Prop :=
  encode (.btnSample .low) = 0x08#8 ∧ encode (.btnSample .high) = 0x09#8 ∧
  (∀ s : State, s.debState = .idle → exec (.btnSample .low) s = .next { s with debState := .confirm, debCount := 0 }) ∧
  (∀ s : State, s.debState = .idle → exec (.btnSample .high) s = .next s)

/-- R153: a pressed sample inside the busy-wait resets the confirmation count and nothing else. -/
def Obligations.BounceResetsConfirmation : Prop :=
  ∀ s : State, s.debState = .confirm → exec (.btnSample .low) s = .next { s with debCount := 0 }

/-- R154: a released sample inside the busy-wait is counted; the last one asked for ends the busy-wait and performs PRESS
in the same step. -/
def Obligations.LastConfirmationPresses : Prop :=
  (∀ s : State, s.debState = .confirm → s.debCount + 1 < s.cfg.debounceConfirmations →
    exec (.btnSample .high) s = .next { s with debCount := s.debCount + 1 }) ∧
  (∀ s : State, s.debState = .confirm → s.cfg.debounceConfirmations ≤ s.debCount + 1 →
    exec (.btnSample .high) s = exec .press { s with debCount := 0, debState := .idle } ∧
    ∃ t, exec (.btnSample .high) s = .next t ∧ t.debState = .idle ∧ t.debCount = 0)

/-- RESET puts every field of the state record at its reset value; accumulator and index take values of which nothing is
said but the index's range. Derived: decisions D13, D22; log 4, log 5, log 14. -/
def Obligations.ResetWritesEveryField : Prop :=
  encode .reset = 0x07#8 ∧
  ∀ s : State, ∃ (acc : FrameWord) (n : Nat), n ≤ 32 ∧
    exec .reset s = .next { s with
      decoderState := .waitingForMark
      tickCount := 0
      frameAccumulator := acc
      bitIndex := n
      signalCapturedFlag := false
      actuator := if s.cfg.resetCommand = .cmdA then ⟨.on, .left⟩ else ⟨.off, .right⟩
      debState := .idle
      debCount := 0
      irPrev := .high
      draws := s.draws + 1 }

/-- The state at power-on is the state after one RESET of the reference configuration, but for the free values and the
model's own fields. Derived: decisions D13, D22; log 4, log 5, log 15. -/
def Obligations.PowerOnIsOneReset : Prop :=
  ∀ s : State, s.cfg = Config.reference → ∃ t, exec .reset s = .next t ∧
    State.reset = { t with
      frameAccumulator := State.reset.frameAccumulator
      bitIndex := State.reset.bitIndex
      draws := State.reset.draws
      stimuli := [] }

/-! ## The pin level -/

/-- A clock cycle with `rst` high is RESET alone, whatever the other pins. Derived: decision D9. -/
def Obligations.ResetPinOverridesCycle : Prop :=
  ∀ (s : State) (pins : Pins), pins.rst = true →
    exec (.cycle pins) s = exec .reset s ∧ ∃ t, exec (.cycle pins) s = .next t ∧ t.irPrev = .high

/-- A clock cycle with `rst` low is a run of event-level operations (TAKE, PRESS, then at most one interrupt operation,
chosen by the state before the cycle) followed by the update of `ir_prev`. Derived: decisions D9, D24. -/
def Obligations.CycleIsEventLevelRun : Prop :=
  ∀ (s : State) (pins : Pins), pins.rst = false →
    ∃ t, runOps (mainLoopOps pins ++ interruptOps s pins) s = .next t ∧
      exec (.cycle pins) s = .next { t with irPrev := pins.irIn }

/-- A timeout beats an edge: an overflow or an external timeout in the cycle drops the edge, publishes the frame and
leaves accumulator and index alone. Derived: decision D9. -/
def Obligations.TimeoutBeatsEdge : Prop :=
  ∀ (s : State) (pins : Pins), pins.rst = false →
    (s.decoderState = .measuringMark → pins.tickEn = true → s.tickCount = s.cfg.tickMax →
      ∃ t, exec (.cycle pins) s = .next t ∧ t.decoderState = .waitingForMark ∧ t.tickCount = 0 ∧
        t.signalCapturedFlag = true ∧ t.frameAccumulator = s.frameAccumulator ∧ t.bitIndex = s.bitIndex ∧
        t.irPrev = pins.irIn) ∧
    (¬ (s.decoderState = .measuringMark ∧ pins.tickEn = true ∧ s.tickCount = s.cfg.tickMax) → pins.timeoutExt = true →
      ∃ t, exec (.cycle pins) s = .next t ∧ t.decoderState = .waitingForMark ∧ t.tickCount = s.tickCount ∧
        t.signalCapturedFlag = true ∧ t.frameAccumulator = s.frameAccumulator ∧ t.bitIndex = s.bitIndex ∧
        t.irPrev = pins.irIn)

/-- An edge beats a tick: the tick of the edge's cycle is not counted; a falling edge is measured by the count before the
cycle, a rising edge leaves the count at 0. Derived: decision D9. -/
def Obligations.EdgeBeatsTick : Prop :=
  ∀ (s : State) (pins : Pins), pins.rst = false → pins.timeoutExt = false → pins.tickEn = true →
    (s.decoderState = .measuringMark → s.tickCount < s.cfg.tickMax → s.irPrev = .high → pins.irIn = .low →
      ∃ t u, exec (.cycle pins) s = .next t ∧ exec .fall s = .next u ∧ SameDecoderPart t u ∧
        t.tickCount = s.tickCount ∧ t.irPrev = .low) ∧
    (s.decoderState = .waitingForMark → s.irPrev = .low → pins.irIn = .high →
      ∃ t, exec (.cycle pins) s = .next t ∧ t.decoderState = .measuringMark ∧ t.tickCount = 0 ∧ t.irPrev = .high)

/-- The main-loop side runs first, on the state the previous cycle left: TAKE consumes the earlier hand-off, a timeout of
the same cycle raises the flag again, and PRESS has the last word on the actuator. Derived: decision D9. -/
def Obligations.MainLoopSideRunsFirst : Prop :=
  ∀ (s : State) (pins : Pins) (k : KnownCommand), Inv s → pins.rst = false → pins.pollEn = true →
    s.debState = .idle → s.signalCapturedFlag = true → s.frameAccumulator = codeOf s.cfg k →
    ∃ t, exec (.cycle pins) s = .next t ∧
      t.actuator = (if pins.press then pairOf (otherCommand k) else pairOf k) ∧
      (t.signalCapturedFlag = true ↔ pins.timeoutExt = true ∨
        (s.decoderState = .measuringMark ∧ pins.tickEn = true ∧ s.tickCount = s.cfg.tickMax))

/-- A mark of `n + 1` HIGH cycles with a tick in each is counted as `n` ticks, and the flag and the actuator do not matter.
Derived: decision D9 and the spec's Program 4. -/
def Obligations.HighCyclesAreCounted : Prop :=
  ∀ (s : State) (n : Nat), s.decoderState = .waitingForMark → s.irPrev = .low → n ≤ s.cfg.tickMax →
    ∃ t, runOps (Wire.lineCycles (List.replicate (n + 1) .high)) s = .next t ∧ t.decoderState = .measuringMark ∧
      t.tickCount = n ∧ t.irPrev = .high ∧ t.frameAccumulator = s.frameAccumulator ∧ t.bitIndex = s.bitIndex

/-- K-a: at the pin level a running measurement means the line was HIGH, so an unarmed rising edge never occurs.
Derived: the spec's own inference (45_pin_level_cycle.md, last rule). -/
def Obligations.CycleKeepsPinLevelInvariant : Prop :=
  ∀ (s t : State) (pins : Pins), PinLevelInv s → exec (.cycle pins) s = .next t → PinLevelInv t

/-! ## Frames and whole-machine rules -/

/-- What the interrupt-side operations leave alone: RISE, FALL, TICK and TIMEOUT write neither the actuator nor the debouncer
nor anything outside the decoder, and write the flag only to set it. Derived from the access table, which the spec marks
as its own inference (10_state.md section 10). -/
def Obligations.InterruptOperationsFrame : Prop :=
  ∀ (i : Instr) (s t : State), i.context = .interrupt → exec i s = .next t →
    SameMainLoopPart s t ∧ SameOutside s t ∧ (s.signalCapturedFlag = true → t.signalCapturedFlag = true) ∧
    (i = .rise → t.frameAccumulator = s.frameAccumulator ∧ t.bitIndex = s.bitIndex ∧ t.signalCapturedFlag = s.signalCapturedFlag) ∧
    (i = .fall → t.tickCount = s.tickCount ∧ t.signalCapturedFlag = s.signalCapturedFlag) ∧
    (i = .tick → t.frameAccumulator = s.frameAccumulator ∧ t.bitIndex = s.bitIndex) ∧
    (i = .timeout → t.tickCount = s.tickCount ∧ t.frameAccumulator = s.frameAccumulator ∧ t.bitIndex = s.bitIndex)

/-- What the main-loop operations leave alone: TAKE, PRESS and BTN_SAMPLE never write the decoder's part; TAKE may only clear
the flag, the other two do not touch it; TAKE and PRESS do not touch the debouncer. Derived from the access table
(10_state.md section 10). -/
def Obligations.MainLoopOperationsFrame : Prop :=
  ∀ (i : Instr) (s t : State), i.context = .mainLoop → exec i s = .next t →
    SameDecoderPart s t ∧ SameOutside s t ∧ (s.signalCapturedFlag = false → t.signalCapturedFlag = false) ∧
    (i ≠ .take → t.signalCapturedFlag = s.signalCapturedFlag) ∧
    ((i = .take ∨ i = .press) → t.debState = s.debState ∧ t.debCount = s.debCount)

/-- What RESET and CYCLE leave alone: the configuration and the stimuli still to come; a CYCLE with `rst` low also the
debouncer and the free values. With the two frames above: no operation changes a parameter. Derived: 10_state.md section 5,
45_pin_level_cycle.md; log 1, log 3. -/
def Obligations.ResetAndCycleFrame : Prop :=
  ∀ (s t : State) (pins : Pins),
    (exec .reset s = .next t → t.cfg = s.cfg ∧ t.stimuli = s.stimuli) ∧
    (exec (.cycle pins) s = .next t → t.cfg = s.cfg ∧ t.stimuli = s.stimuli ∧
      (pins.rst = false → t.debState = s.debState ∧ t.debCount = s.debCount ∧ t.draws = s.draws ∧ t.irPrev = pins.irIn))

/-- The decoder never reads the flag, the actuator or the debouncer: two states with the same decoder part keep the same
decoder part through every interrupt-side operation. Derived: guarantee O5 (20_memory.md section 4). -/
def Obligations.DecoderIgnoresMainLoop : Prop :=
  ∀ (i : Instr) (s₁ s₂ t₁ t₂ : State), i.context = .interrupt → SameDecoderPart s₁ s₂ →
    exec i s₁ = .next t₁ → exec i s₂ = .next t₂ → SameDecoderPart t₁ t₂

/-- The complete transition relation of `DecoderState` at the event level. Derived from 40_pulse_decoder.md R113 and
41_tick_timer_timeout.md R121: a count above `TICK_MAX`, which no run reaches, overflows too (log 9). -/
def Obligations.DecoderStateTransitions : Prop :=
  ∀ (i : Instr) (s t : State), (∀ pins, i ≠ .cycle pins) → exec i s = .next t →
    (s.decoderState = .waitingForMark → (t.decoderState = .measuringMark ↔ i = .rise)) ∧
    (s.decoderState = .measuringMark → (t.decoderState = .waitingForMark ↔
      i = .fall ∨ i = .timeout ∨ i = .reset ∨ (i = .tick ∧ s.cfg.tickMax ≤ s.tickCount)))

/-- I-b: the flag goes from false to true only on the timeout path, and from true to false only on the dispatch path or by
RESET. Derived: RESET's write is decision D13; a count above `TICK_MAX` overflows too (log 9). -/
def Obligations.FlagTransitionsAreOwned : Prop :=
  ∀ (i : Instr) (s t : State), exec i s = .next t →
    (s.signalCapturedFlag = false → t.signalCapturedFlag = true →
      i = .timeout ∨ (i = .tick ∧ s.decoderState = .measuringMark ∧ s.cfg.tickMax ≤ s.tickCount) ∨
      ∃ pins, i = .cycle pins ∧ pins.rst = false ∧ (pins.timeoutExt = true ∨
        (pins.tickEn = true ∧ s.decoderState = .measuringMark ∧ s.cfg.tickMax ≤ s.tickCount))) ∧
    (s.signalCapturedFlag = true → t.signalCapturedFlag = false →
      (i = .take ∧ s.debState = .idle) ∨ i = .reset ∨
      ∃ pins, i = .cycle pins ∧ (pins.rst = true ∨ (pins.pollEn = true ∧ s.debState = .idle)))

/-- No operation clears a single bit of the accumulator: RESET apart, either the accumulator stays or gains one bit and the
index does not go back, or both return to 0 in a FALL (of the event level, or the one a clock cycle performs) that ends a
start pulse. A timeout abandons neither. Derived: 10_state.md section 3, invariant I-a; the clock cycle is decision D9. -/
def Obligations.AccumulatorNeverLosesOneBit : Prop :=
  ∀ (i : Instr) (s t : State), i ≠ .reset → (∀ pins, i = .cycle pins → pins.rst = false) → exec i s = .next t →
    (t.frameAccumulator = 0 ∧ t.bitIndex = 0 ∧ s.decoderState = .measuringMark ∧ s.cfg.startThreshold < s.tickCount ∧
      (i = .fall ∨ ∃ pins, i = .cycle pins ∧ interruptOps s pins = [.fall])) ∨
    (s.bitIndex ≤ t.bitIndex ∧ t.bitIndex ≤ s.bitIndex + 1 ∧
      (t.frameAccumulator = s.frameAccumulator ∨
        (t.bitIndex = s.bitIndex + 1 ∧ ∃ k, k < 32 ∧ t.frameAccumulator = s.frameAccumulator ||| (1#32 <<< k))))

/-- What the two output channels carry, and that they change only in a step that runs Dispatch with a recognized code, or
RESET. Derived from 44_actuator_output.md R166: the bit values and ports are decisions D15 and D16, the clock cycle
decision D9. -/
def Obligations.OutputsFollowDispatchedCommand : Prop :=
  (∀ s : State,
    (s.actuator.indicator = .on → s.outputs.indicator = 1) ∧ (s.actuator.indicator = .off → s.outputs.indicator = 0) ∧
    (s.actuator.position = .left → s.outputs.position = s.cfg.posLeft ∧ s.outputs.posSel = 0) ∧
    (s.actuator.position = .right → s.outputs.position = s.cfg.posRight ∧ s.outputs.posSel = 1)) ∧
  (∀ (i : Instr) (s t : State), exec i s = .next t → t.outputs ≠ s.outputs →
    LegalActuator t.actuator ∧
    (i = .reset ∨ i = .press ∨
      (i = .take ∧ s.debState = .idle ∧ s.signalCapturedFlag = true ∧ lookup s.cfg s.frameAccumulator ≠ .unrecognized) ∨
      (i = .btnSample .high ∧ s.debState = .confirm ∧ s.cfg.debounceConfirmations ≤ s.debCount + 1) ∨
      ∃ pins, i = .cycle pins ∧ (pins.rst = true ∨ pins.press = true ∨
        (pins.pollEn = true ∧ s.debState = .idle ∧ s.signalCapturedFlag = true ∧
          lookup s.cfg s.frameAccumulator ≠ .unrecognized))))

/-! ## Invariants -/

/-- The state after reset satisfies every invariant, whatever the free values are. Derived: decision D13, D3; log 4, log 6. -/
def Obligations.ResetStateMeetsInvariants : Prop := Inv State.reset ∧ PinLevelInv State.reset

/-- Every step keeps the invariants J-a, J-b, J-e and I-c, under every well-formed configuration. Derived: the spec marks
them as its own inference (10_state.md section 9); log 7. -/
def Obligations.StepKeepsInvariants : Prop :=
  ∀ s t : State, Inv s → step s = .next t → Inv t

/-- J-c: a start pulse clears the bits not yet written, and from then on every operation but RESET, at the event level and at
the pin level, keeps them clear. Derived: 10_state.md section 9. -/
def Obligations.UnwrittenBitsStayClear : Prop :=
  (∀ s t : State, s.decoderState = .measuringMark → s.cfg.startThreshold < s.tickCount → exec .fall s = .next t →
    UnwrittenBitsClear t) ∧
  (∀ (i : Instr) (s t : State), i ≠ .reset → (∀ pins, i = .cycle pins → pins.rst = false) → UnwrittenBitsClear s →
    exec i s = .next t → UnwrittenBitsClear t)

/-- After a start pulse a recognized code requires all 32 data pulses: with fewer, TAKE never drives the actuator, as long as
both codes have bit 31 set. Derived: 42_frame_dispatcher.md section 3. -/
def Obligations.PartialFrameNeverMatches : Prop :=
  ∀ s : State, s.cfg.CodesUseLastBit → UnwrittenBitsClear s → s.bitIndex ≤ 31 → s.debState = .idle →
    exec .take s = .next { s with signalCapturedFlag := false }

/-- Where no BTN_SAMPLE is issued, the debouncer never leaves DB_IDLE, so TAKE is never held. Derived: decision D18. -/
def Obligations.IdleWithoutSamples : Prop :=
  ∀ (ops : List Instr) (s : State), (∀ l, Instr.btnSample l ∉ ops) → s.debState = .idle → s.debCount = 0 →
    ∃ t, runOps ops s = .next t ∧ t.debState = .idle ∧ t.debCount = 0

/-! ## Sequences -/

/-- `MARK n` is measured as exactly `n` ticks, for every width the counter can hold. Derived from the rules of RISE, TICK and
FALL (30_encoding.md section 6, decision D14). -/
def Obligations.MarkIsMeasuredExactly : Prop :=
  ∀ (s : State) (n : Nat), s.decoderState = .waitingForMark → n ≤ s.cfg.tickMax →
    runOps (Pseudo.mark n) s = exec .fall { s with decoderState := .measuringMark, tickCount := n }

/-- `TIMEOUT_TICKS = TICK_MAX + 1`: that many ticks after a rise with no fall publish the frame, and later ticks and a late
fall change nothing. Derived: decision D6. -/
def Obligations.SilencePublishesFrame : Prop :=
  ∀ (s : State) (extra : Nat), s.decoderState = .waitingForMark →
    runOps ((.rise :: Pseudo.ticks (s.cfg.timeoutTicks + extra)) ++ [.fall]) s =
      .next { s with tickCount := 0, signalCapturedFlag := true }

/-- R74: after a start pulse and 32 data pulses with classifications `b 0` to `b 31` the accumulator is the sum of
`b k * 2 ^ k`, for every choice of widths inside their bands and of spaces between the marks. -/
def Obligations.FrameIsAssembledLeastSignificantFirst : Prop :=
  ∀ (s : State) (b : Nat → Bool) (startWidth : Nat) (width space : Nat → Nat),
    s.cfg.WellFormed → s.decoderState = .waitingForMark →
    s.cfg.startThreshold < startWidth → startWidth ≤ s.cfg.tickMax →
    (∀ k, k < 32 → b k = true → s.cfg.dataOneThreshold < width k ∧ width k ≤ s.cfg.startThreshold) →
    (∀ k, k < 32 → b k = false → width k ≤ s.cfg.dataOneThreshold) →
    ∃ t, runOps (Pseudo.mark startWidth ++
        (List.range 32).flatMap (fun k => Pseudo.space (space k) ++ Pseudo.mark (width k))) s = .next t ∧
      t.frameAccumulator.toNat = ((List.range 32).map (fun k => (b k).toNat * 2 ^ k)).sum ∧
      t.bitIndex = 32 ∧ t.decoderState = .waitingForMark ∧ t.signalCapturedFlag = s.signalCapturedFlag ∧
      SameMainLoopPart s t ∧ SameOutside s t

/-- `SEND` of a command's code drives that command's pair, from every state that waits for a mark with the debouncer idle,
whatever accumulator and index held. Derived: 30_encoding.md section 6 and the scenarios of the spec's part 1; the default
tick width (decision D2). -/
def Obligations.SentCommandDrivesActuator : Prop :=
  ∀ (s : State) (k : KnownCommand), s.cfg.WellFormed → s.cfg.MeetsScenarios → s.cfg.tickWidth = 8 →
    s.decoderState = .waitingForMark → s.debState = .idle →
    runOps (Pseudo.send (codeOf s.cfg k)) s = .next { s with
      tickCount := 0
      frameAccumulator := codeOf s.cfg k
      bitIndex := 32
      signalCapturedFlag := false
      actuator := pairOf k }

/-- A burst of data pulses with no start pulse, when 32 are already written, is ignored whole under `ignore`: the old frame
stays to be delivered again. Derived: hazard HZ-5 (70_reset_and_hazards.md section 3). -/
def Obligations.StartlessBurstIsIgnored : Prop :=
  ∀ (s : State) (widths : List Nat), s.cfg.WellFormed → s.cfg.overrunPolicy = .ignore →
    s.decoderState = .waitingForMark → 32 ≤ s.bitIndex → (∀ w ∈ widths, w ≤ s.cfg.startThreshold) →
    ∃ t, runOps (widths.flatMap Pseudo.mark) s = .next t ∧ t = { s with tickCount := t.tickCount }

/-- Hand-offs merge. TIMEOUTs in a row are one TIMEOUT. And once the flag is up, whatever event-level operations but TAKE
and RESET follow, further TIMEOUTs and overflows among them, it stays up: the first of two TAKEs then acts once, on the
accumulator as it finally stands, and the second changes nothing. Derived: decision D21, hazard HZ-8
(70_reset_and_hazards.md section 3). -/
def Obligations.TimeoutsMerge : Prop :=
  (∀ (s : State) (n : Nat), runTimes (n + 1) .timeout s = exec .timeout s) ∧
  (∀ (s : State) (ops : List Instr), s.signalCapturedFlag = true →
    (∀ i ∈ ops, i ≠ .take ∧ i ≠ .reset ∧ ∀ pins, i ≠ .cycle pins) →
    ∃ t, runOps ops s = .next t ∧ t.signalCapturedFlag = true ∧
      (t.debState = .idle → runOps (ops ++ [.take, .take]) s =
        .next ({ t with signalCapturedFlag := false }.dispatch t.frameAccumulator false)))

/-- A button held down never confirms and holds TAKE for as long. Derived: hazard HZ-3 (70_reset_and_hazards.md section 3). -/
def Obligations.HeldButtonHoldsTake : Prop :=
  ∀ (s : State) (n : Nat), s.debState = .idle →
    runOps (List.replicate (n + 1) (.btnSample .low) ++ [.take]) s = .next { s with debState := .confirm, debCount := 0 }

/-- A press and `DEBOUNCE_CONFIRMATIONS` consecutive released samples perform PRESS exactly once, with the last of them; with
fewer the actuator is untouched. Derived: decision D18 and the rule of the last confirmation. -/
def Obligations.ClickPressesOnce : Prop :=
  ∀ (s : State) (n : Nat), s.cfg.WellFormed → s.debState = .idle → s.debCount = 0 →
    (n < s.cfg.debounceConfirmations →
      runOps (.btnSample .low :: List.replicate n (.btnSample .high)) s =
        .next { s with debState := .confirm, debCount := n }) ∧
    (s.cfg.debounceConfirmations ≤ n →
      runOps (.btnSample .low :: List.replicate n (.btnSample .high)) s = exec .press s)

/-! ## The wire -/

/-- However the ticks lie to the edges, a mark is measured within one tick of its duration in tick periods, rounded.
Derived: hazard HZ-10 (70_reset_and_hazards.md section 3); log 17. -/
def Obligations.MeasuredWidthIsRoundedOrOneOff : Prop :=
  ∀ (c : Config) (phase micros : Nat), phase < c.tickPeriodMicros →
    Wire.tickInstantsBetween c phase micros ∈ Wire.measuredWidths c micros
end

