-- ==== Sys2Proof/Laws/Config.lean ====
section
/-! SUPPORT. The reference configuration satisfies the constraints on the parameters, whatever the two
uninterpreted setpoints are (spec/00_scope.md R11, spec/44_actuator_output.md R168). -/

namespace Sys2Proof.Config

theorem setpointOtherThan_ne (left candidate : Nat) : left ≠ setpointOtherThan left candidate := by
  unfold setpointOtherThan
  split <;> omega

theorem lt_widthHolding (left right spare : Nat) :
    left < 2 ^ widthHolding left right spare ∧ right < 2 ^ widthHolding left right spare := by
  have hmax : max left right < 2 ^ widthHolding left right spare :=
    lt_of_lt_of_le Nat.lt_log2_self (Nat.pow_le_pow_right (by decide) (by unfold widthHolding; omega))
  exact ⟨lt_of_le_of_lt (le_max_left _ _) hmax, lt_of_le_of_lt (le_max_right _ _) hmax⟩

theorem reference_wellFormed : reference.WellFormed :=
  ⟨by decide, by decide, setpointOtherThan_ne _ _, lt_widthHolding _ _ _, by decide⟩

theorem reference_meetsScenarios : reference.MeetsScenarios := by decide

theorem reference_codesUseLastBit : reference.CodesUseLastBit := by decide

end Sys2Proof.Config
end

