-- ==== Sys2Proof/Laws/State.lean ====
section
/-! SUPPORT. One lemma per field per register write, each true by rfl: what the field holds after the write. -/

namespace Sys2Proof.Machine.State

variable (s : State)

/-! ### writeDecoderState -/

@[simp] theorem writeDecoderState_cfg (v : DecoderState) : (s.writeDecoderState v).cfg = s.cfg := rfl
@[simp] theorem writeDecoderState_decoderState (v : DecoderState) : (s.writeDecoderState v).decoderState = v := rfl
@[simp] theorem writeDecoderState_tickCount (v : DecoderState) : (s.writeDecoderState v).tickCount = s.tickCount := rfl
@[simp] theorem writeDecoderState_frameAccumulator (v : DecoderState) : (s.writeDecoderState v).frameAccumulator = s.frameAccumulator := rfl
@[simp] theorem writeDecoderState_bitIndex (v : DecoderState) : (s.writeDecoderState v).bitIndex = s.bitIndex := rfl
@[simp] theorem writeDecoderState_signalCapturedFlag (v : DecoderState) : (s.writeDecoderState v).signalCapturedFlag = s.signalCapturedFlag := rfl
@[simp] theorem writeDecoderState_actuator (v : DecoderState) : (s.writeDecoderState v).actuator = s.actuator := rfl
@[simp] theorem writeDecoderState_debState (v : DecoderState) : (s.writeDecoderState v).debState = s.debState := rfl
@[simp] theorem writeDecoderState_debCount (v : DecoderState) : (s.writeDecoderState v).debCount = s.debCount := rfl
@[simp] theorem writeDecoderState_irPrev (v : DecoderState) : (s.writeDecoderState v).irPrev = s.irPrev := rfl
@[simp] theorem writeDecoderState_draws (v : DecoderState) : (s.writeDecoderState v).draws = s.draws := rfl
@[simp] theorem writeDecoderState_stimuli (v : DecoderState) : (s.writeDecoderState v).stimuli = s.stimuli := rfl

/-! ### writeTickCount -/

@[simp] theorem writeTickCount_cfg (v : Nat) : (s.writeTickCount v).cfg = s.cfg := rfl
@[simp] theorem writeTickCount_decoderState (v : Nat) : (s.writeTickCount v).decoderState = s.decoderState := rfl
@[simp] theorem writeTickCount_tickCount (v : Nat) : (s.writeTickCount v).tickCount = v := rfl
@[simp] theorem writeTickCount_frameAccumulator (v : Nat) : (s.writeTickCount v).frameAccumulator = s.frameAccumulator := rfl
@[simp] theorem writeTickCount_bitIndex (v : Nat) : (s.writeTickCount v).bitIndex = s.bitIndex := rfl
@[simp] theorem writeTickCount_signalCapturedFlag (v : Nat) : (s.writeTickCount v).signalCapturedFlag = s.signalCapturedFlag := rfl
@[simp] theorem writeTickCount_actuator (v : Nat) : (s.writeTickCount v).actuator = s.actuator := rfl
@[simp] theorem writeTickCount_debState (v : Nat) : (s.writeTickCount v).debState = s.debState := rfl
@[simp] theorem writeTickCount_debCount (v : Nat) : (s.writeTickCount v).debCount = s.debCount := rfl
@[simp] theorem writeTickCount_irPrev (v : Nat) : (s.writeTickCount v).irPrev = s.irPrev := rfl
@[simp] theorem writeTickCount_draws (v : Nat) : (s.writeTickCount v).draws = s.draws := rfl
@[simp] theorem writeTickCount_stimuli (v : Nat) : (s.writeTickCount v).stimuli = s.stimuli := rfl

/-! ### writeFrameAccumulator -/

@[simp] theorem writeFrameAccumulator_cfg (v : FrameWord) : (s.writeFrameAccumulator v).cfg = s.cfg := rfl
@[simp] theorem writeFrameAccumulator_decoderState (v : FrameWord) : (s.writeFrameAccumulator v).decoderState = s.decoderState := rfl
@[simp] theorem writeFrameAccumulator_tickCount (v : FrameWord) : (s.writeFrameAccumulator v).tickCount = s.tickCount := rfl
@[simp] theorem writeFrameAccumulator_frameAccumulator (v : FrameWord) : (s.writeFrameAccumulator v).frameAccumulator = v := rfl
@[simp] theorem writeFrameAccumulator_bitIndex (v : FrameWord) : (s.writeFrameAccumulator v).bitIndex = s.bitIndex := rfl
@[simp] theorem writeFrameAccumulator_signalCapturedFlag (v : FrameWord) : (s.writeFrameAccumulator v).signalCapturedFlag = s.signalCapturedFlag := rfl
@[simp] theorem writeFrameAccumulator_actuator (v : FrameWord) : (s.writeFrameAccumulator v).actuator = s.actuator := rfl
@[simp] theorem writeFrameAccumulator_debState (v : FrameWord) : (s.writeFrameAccumulator v).debState = s.debState := rfl
@[simp] theorem writeFrameAccumulator_debCount (v : FrameWord) : (s.writeFrameAccumulator v).debCount = s.debCount := rfl
@[simp] theorem writeFrameAccumulator_irPrev (v : FrameWord) : (s.writeFrameAccumulator v).irPrev = s.irPrev := rfl
@[simp] theorem writeFrameAccumulator_draws (v : FrameWord) : (s.writeFrameAccumulator v).draws = s.draws := rfl
@[simp] theorem writeFrameAccumulator_stimuli (v : FrameWord) : (s.writeFrameAccumulator v).stimuli = s.stimuli := rfl

/-! ### writeBitIndex -/

@[simp] theorem writeBitIndex_cfg (v : Nat) : (s.writeBitIndex v).cfg = s.cfg := rfl
@[simp] theorem writeBitIndex_decoderState (v : Nat) : (s.writeBitIndex v).decoderState = s.decoderState := rfl
@[simp] theorem writeBitIndex_tickCount (v : Nat) : (s.writeBitIndex v).tickCount = s.tickCount := rfl
@[simp] theorem writeBitIndex_frameAccumulator (v : Nat) : (s.writeBitIndex v).frameAccumulator = s.frameAccumulator := rfl
@[simp] theorem writeBitIndex_bitIndex (v : Nat) : (s.writeBitIndex v).bitIndex = v := rfl
@[simp] theorem writeBitIndex_signalCapturedFlag (v : Nat) : (s.writeBitIndex v).signalCapturedFlag = s.signalCapturedFlag := rfl
@[simp] theorem writeBitIndex_actuator (v : Nat) : (s.writeBitIndex v).actuator = s.actuator := rfl
@[simp] theorem writeBitIndex_debState (v : Nat) : (s.writeBitIndex v).debState = s.debState := rfl
@[simp] theorem writeBitIndex_debCount (v : Nat) : (s.writeBitIndex v).debCount = s.debCount := rfl
@[simp] theorem writeBitIndex_irPrev (v : Nat) : (s.writeBitIndex v).irPrev = s.irPrev := rfl
@[simp] theorem writeBitIndex_draws (v : Nat) : (s.writeBitIndex v).draws = s.draws := rfl
@[simp] theorem writeBitIndex_stimuli (v : Nat) : (s.writeBitIndex v).stimuli = s.stimuli := rfl

/-! ### raiseCaptured -/

@[simp] theorem raiseCaptured_cfg : (s.raiseCaptured).cfg = s.cfg := rfl
@[simp] theorem raiseCaptured_decoderState : (s.raiseCaptured).decoderState = s.decoderState := rfl
@[simp] theorem raiseCaptured_tickCount : (s.raiseCaptured).tickCount = s.tickCount := rfl
@[simp] theorem raiseCaptured_frameAccumulator : (s.raiseCaptured).frameAccumulator = s.frameAccumulator := rfl
@[simp] theorem raiseCaptured_bitIndex : (s.raiseCaptured).bitIndex = s.bitIndex := rfl
@[simp] theorem raiseCaptured_signalCapturedFlag : (s.raiseCaptured).signalCapturedFlag = true := rfl
@[simp] theorem raiseCaptured_actuator : (s.raiseCaptured).actuator = s.actuator := rfl
@[simp] theorem raiseCaptured_debState : (s.raiseCaptured).debState = s.debState := rfl
@[simp] theorem raiseCaptured_debCount : (s.raiseCaptured).debCount = s.debCount := rfl
@[simp] theorem raiseCaptured_irPrev : (s.raiseCaptured).irPrev = s.irPrev := rfl
@[simp] theorem raiseCaptured_draws : (s.raiseCaptured).draws = s.draws := rfl
@[simp] theorem raiseCaptured_stimuli : (s.raiseCaptured).stimuli = s.stimuli := rfl

/-! ### clearCaptured -/

@[simp] theorem clearCaptured_cfg : (s.clearCaptured).cfg = s.cfg := rfl
@[simp] theorem clearCaptured_decoderState : (s.clearCaptured).decoderState = s.decoderState := rfl
@[simp] theorem clearCaptured_tickCount : (s.clearCaptured).tickCount = s.tickCount := rfl
@[simp] theorem clearCaptured_frameAccumulator : (s.clearCaptured).frameAccumulator = s.frameAccumulator := rfl
@[simp] theorem clearCaptured_bitIndex : (s.clearCaptured).bitIndex = s.bitIndex := rfl
@[simp] theorem clearCaptured_signalCapturedFlag : (s.clearCaptured).signalCapturedFlag = false := rfl
@[simp] theorem clearCaptured_actuator : (s.clearCaptured).actuator = s.actuator := rfl
@[simp] theorem clearCaptured_debState : (s.clearCaptured).debState = s.debState := rfl
@[simp] theorem clearCaptured_debCount : (s.clearCaptured).debCount = s.debCount := rfl
@[simp] theorem clearCaptured_irPrev : (s.clearCaptured).irPrev = s.irPrev := rfl
@[simp] theorem clearCaptured_draws : (s.clearCaptured).draws = s.draws := rfl
@[simp] theorem clearCaptured_stimuli : (s.clearCaptured).stimuli = s.stimuli := rfl

/-! ### writeActuator -/

@[simp] theorem writeActuator_cfg (v : Actuator) : (s.writeActuator v).cfg = s.cfg := rfl
@[simp] theorem writeActuator_decoderState (v : Actuator) : (s.writeActuator v).decoderState = s.decoderState := rfl
@[simp] theorem writeActuator_tickCount (v : Actuator) : (s.writeActuator v).tickCount = s.tickCount := rfl
@[simp] theorem writeActuator_frameAccumulator (v : Actuator) : (s.writeActuator v).frameAccumulator = s.frameAccumulator := rfl
@[simp] theorem writeActuator_bitIndex (v : Actuator) : (s.writeActuator v).bitIndex = s.bitIndex := rfl
@[simp] theorem writeActuator_signalCapturedFlag (v : Actuator) : (s.writeActuator v).signalCapturedFlag = s.signalCapturedFlag := rfl
@[simp] theorem writeActuator_actuator (v : Actuator) : (s.writeActuator v).actuator = v := rfl
@[simp] theorem writeActuator_debState (v : Actuator) : (s.writeActuator v).debState = s.debState := rfl
@[simp] theorem writeActuator_debCount (v : Actuator) : (s.writeActuator v).debCount = s.debCount := rfl
@[simp] theorem writeActuator_irPrev (v : Actuator) : (s.writeActuator v).irPrev = s.irPrev := rfl
@[simp] theorem writeActuator_draws (v : Actuator) : (s.writeActuator v).draws = s.draws := rfl
@[simp] theorem writeActuator_stimuli (v : Actuator) : (s.writeActuator v).stimuli = s.stimuli := rfl

/-! ### writeDebState -/

@[simp] theorem writeDebState_cfg (v : DebState) : (s.writeDebState v).cfg = s.cfg := rfl
@[simp] theorem writeDebState_decoderState (v : DebState) : (s.writeDebState v).decoderState = s.decoderState := rfl
@[simp] theorem writeDebState_tickCount (v : DebState) : (s.writeDebState v).tickCount = s.tickCount := rfl
@[simp] theorem writeDebState_frameAccumulator (v : DebState) : (s.writeDebState v).frameAccumulator = s.frameAccumulator := rfl
@[simp] theorem writeDebState_bitIndex (v : DebState) : (s.writeDebState v).bitIndex = s.bitIndex := rfl
@[simp] theorem writeDebState_signalCapturedFlag (v : DebState) : (s.writeDebState v).signalCapturedFlag = s.signalCapturedFlag := rfl
@[simp] theorem writeDebState_actuator (v : DebState) : (s.writeDebState v).actuator = s.actuator := rfl
@[simp] theorem writeDebState_debState (v : DebState) : (s.writeDebState v).debState = v := rfl
@[simp] theorem writeDebState_debCount (v : DebState) : (s.writeDebState v).debCount = s.debCount := rfl
@[simp] theorem writeDebState_irPrev (v : DebState) : (s.writeDebState v).irPrev = s.irPrev := rfl
@[simp] theorem writeDebState_draws (v : DebState) : (s.writeDebState v).draws = s.draws := rfl
@[simp] theorem writeDebState_stimuli (v : DebState) : (s.writeDebState v).stimuli = s.stimuli := rfl

/-! ### writeDebCount -/

@[simp] theorem writeDebCount_cfg (v : Nat) : (s.writeDebCount v).cfg = s.cfg := rfl
@[simp] theorem writeDebCount_decoderState (v : Nat) : (s.writeDebCount v).decoderState = s.decoderState := rfl
@[simp] theorem writeDebCount_tickCount (v : Nat) : (s.writeDebCount v).tickCount = s.tickCount := rfl
@[simp] theorem writeDebCount_frameAccumulator (v : Nat) : (s.writeDebCount v).frameAccumulator = s.frameAccumulator := rfl
@[simp] theorem writeDebCount_bitIndex (v : Nat) : (s.writeDebCount v).bitIndex = s.bitIndex := rfl
@[simp] theorem writeDebCount_signalCapturedFlag (v : Nat) : (s.writeDebCount v).signalCapturedFlag = s.signalCapturedFlag := rfl
@[simp] theorem writeDebCount_actuator (v : Nat) : (s.writeDebCount v).actuator = s.actuator := rfl
@[simp] theorem writeDebCount_debState (v : Nat) : (s.writeDebCount v).debState = s.debState := rfl
@[simp] theorem writeDebCount_debCount (v : Nat) : (s.writeDebCount v).debCount = v := rfl
@[simp] theorem writeDebCount_irPrev (v : Nat) : (s.writeDebCount v).irPrev = s.irPrev := rfl
@[simp] theorem writeDebCount_draws (v : Nat) : (s.writeDebCount v).draws = s.draws := rfl
@[simp] theorem writeDebCount_stimuli (v : Nat) : (s.writeDebCount v).stimuli = s.stimuli := rfl

/-! ### writeIrPrev -/

@[simp] theorem writeIrPrev_cfg (v : Level) : (s.writeIrPrev v).cfg = s.cfg := rfl
@[simp] theorem writeIrPrev_decoderState (v : Level) : (s.writeIrPrev v).decoderState = s.decoderState := rfl
@[simp] theorem writeIrPrev_tickCount (v : Level) : (s.writeIrPrev v).tickCount = s.tickCount := rfl
@[simp] theorem writeIrPrev_frameAccumulator (v : Level) : (s.writeIrPrev v).frameAccumulator = s.frameAccumulator := rfl
@[simp] theorem writeIrPrev_bitIndex (v : Level) : (s.writeIrPrev v).bitIndex = s.bitIndex := rfl
@[simp] theorem writeIrPrev_signalCapturedFlag (v : Level) : (s.writeIrPrev v).signalCapturedFlag = s.signalCapturedFlag := rfl
@[simp] theorem writeIrPrev_actuator (v : Level) : (s.writeIrPrev v).actuator = s.actuator := rfl
@[simp] theorem writeIrPrev_debState (v : Level) : (s.writeIrPrev v).debState = s.debState := rfl
@[simp] theorem writeIrPrev_debCount (v : Level) : (s.writeIrPrev v).debCount = s.debCount := rfl
@[simp] theorem writeIrPrev_irPrev (v : Level) : (s.writeIrPrev v).irPrev = v := rfl
@[simp] theorem writeIrPrev_draws (v : Level) : (s.writeIrPrev v).draws = s.draws := rfl
@[simp] theorem writeIrPrev_stimuli (v : Level) : (s.writeIrPrev v).stimuli = s.stimuli := rfl

/-! ### advanceDraws -/

@[simp] theorem advanceDraws_cfg : (s.advanceDraws).cfg = s.cfg := rfl
@[simp] theorem advanceDraws_decoderState : (s.advanceDraws).decoderState = s.decoderState := rfl
@[simp] theorem advanceDraws_tickCount : (s.advanceDraws).tickCount = s.tickCount := rfl
@[simp] theorem advanceDraws_frameAccumulator : (s.advanceDraws).frameAccumulator = s.frameAccumulator := rfl
@[simp] theorem advanceDraws_bitIndex : (s.advanceDraws).bitIndex = s.bitIndex := rfl
@[simp] theorem advanceDraws_signalCapturedFlag : (s.advanceDraws).signalCapturedFlag = s.signalCapturedFlag := rfl
@[simp] theorem advanceDraws_actuator : (s.advanceDraws).actuator = s.actuator := rfl
@[simp] theorem advanceDraws_debState : (s.advanceDraws).debState = s.debState := rfl
@[simp] theorem advanceDraws_debCount : (s.advanceDraws).debCount = s.debCount := rfl
@[simp] theorem advanceDraws_irPrev : (s.advanceDraws).irPrev = s.irPrev := rfl
@[simp] theorem advanceDraws_draws : (s.advanceDraws).draws = s.draws + 1 := rfl
@[simp] theorem advanceDraws_stimuli : (s.advanceDraws).stimuli = s.stimuli := rfl

/-! ### writeStimuli -/

@[simp] theorem writeStimuli_cfg (v : List StimulusWord) : (s.writeStimuli v).cfg = s.cfg := rfl
@[simp] theorem writeStimuli_decoderState (v : List StimulusWord) : (s.writeStimuli v).decoderState = s.decoderState := rfl
@[simp] theorem writeStimuli_tickCount (v : List StimulusWord) : (s.writeStimuli v).tickCount = s.tickCount := rfl
@[simp] theorem writeStimuli_frameAccumulator (v : List StimulusWord) : (s.writeStimuli v).frameAccumulator = s.frameAccumulator := rfl
@[simp] theorem writeStimuli_bitIndex (v : List StimulusWord) : (s.writeStimuli v).bitIndex = s.bitIndex := rfl
@[simp] theorem writeStimuli_signalCapturedFlag (v : List StimulusWord) : (s.writeStimuli v).signalCapturedFlag = s.signalCapturedFlag := rfl
@[simp] theorem writeStimuli_actuator (v : List StimulusWord) : (s.writeStimuli v).actuator = s.actuator := rfl
@[simp] theorem writeStimuli_debState (v : List StimulusWord) : (s.writeStimuli v).debState = s.debState := rfl
@[simp] theorem writeStimuli_debCount (v : List StimulusWord) : (s.writeStimuli v).debCount = s.debCount := rfl
@[simp] theorem writeStimuli_irPrev (v : List StimulusWord) : (s.writeStimuli v).irPrev = s.irPrev := rfl
@[simp] theorem writeStimuli_draws (v : List StimulusWord) : (s.writeStimuli v).draws = s.draws := rfl
@[simp] theorem writeStimuli_stimuli (v : List StimulusWord) : (s.writeStimuli v).stimuli = v := rfl

end Sys2Proof.Machine.State
end

