-- ==== Sys2Proof/Laws/Ops.lean ====
section
/-! SUPPORT. What each shared operation of Machine/Ops.lean and Machine/Operands.lean does: one lemma that says
all of it, and what it leaves alone. Later proofs cite these and do not unfold the operations. -/

namespace Sys2Proof.Machine

/-! ### Width bands -/

theorem pulseClass_eq_start {c : Config} {w : Nat} (h : c.startThreshold < w) : pulseClass c w = .start := by
  simp [pulseClass, h]

theorem pulseClass_eq_one {c : Config} {w : Nat} (h₁ : c.dataOneThreshold < w) (h₂ : w ≤ c.startThreshold) :
    pulseClass c w = .one := by
  simp [pulseClass, h₁, Nat.not_lt.mpr h₂]

theorem pulseClass_eq_zero {c : Config} {w : Nat} (h₁ : w ≤ c.dataOneThreshold) (h₂ : w ≤ c.startThreshold) :
    pulseClass c w = .zero := by
  simp [pulseClass, Nat.not_lt.mpr h₁, Nat.not_lt.mpr h₂]

/-! ### Setting one bit of the frame word -/

theorem setBit_getLsbD (acc : FrameWord) {k j : Nat} (hj : j < accWidth) :
    (setBit acc k).getLsbD j = (acc.getLsbD j || decide (j = k)) := by
  have hj' : j < 32 := hj
  rw [setBit, BitVec.getLsbD_or, BitVec.getLsbD_shiftLeft, BitVec.getLsbD_one]
  by_cases hjk : j < k
  · simp [hj', hjk, Nat.ne_of_lt hjk]
  · by_cases he : j = k
    · simp [he ▸ hj', he]
    · have hpos : j - k ≠ 0 := by omega
      simp [hj', hjk, he, hpos]

theorem setBit_keeps_ones (acc : FrameWord) (k j : Nat) (h : acc.getLsbD j = true) :
    (setBit acc k).getLsbD j = true := by
  simp [setBit, h]

namespace State

variable (s : State)

/-! ### StartAction, AppendBit, Classify -/

theorem startAction_eq : s.startAction = (s.writeFrameAccumulator 0).writeBitIndex 0 := rfl

@[simp] theorem startAction_frameAccumulator : s.startAction.frameAccumulator = 0 := rfl
@[simp] theorem startAction_bitIndex : s.startAction.bitIndex = 0 := rfl

theorem appendAt_true (k : Nat) :
    s.appendAt k true = (s.writeFrameAccumulator (setBit s.frameAccumulator k)).writeBitIndex (s.bitIndex + 1) := rfl

theorem appendAt_false (k : Nat) : s.appendAt k false = s.writeBitIndex (s.bitIndex + 1) := rfl

/-- Below the width both policies append at the index itself (R106, R107). -/
theorem appendBit_of_lt (b : Bool) (h : s.bitIndex < accWidth) : s.appendBit b = s.appendAt s.bitIndex b := by
  unfold appendBit
  cases s.cfg.overrunPolicy with
  | ignore => simp [h]
  | wrap => simp [Nat.mod_eq_of_lt h]

/-- At the width and beyond, `ignore` drops the pulse (R109). -/
theorem appendBit_ignored (b : Bool) (hp : s.cfg.overrunPolicy = .ignore) (h : accWidth ≤ s.bitIndex) :
    s.appendBit b = s := by
  simp [appendBit, hp, Nat.not_lt.mpr h]

/-- `wrap` appends at the index modulo the width (R109). -/
theorem appendBit_wrapped (b : Bool) (hp : s.cfg.overrunPolicy = .wrap) :
    s.appendBit b = s.appendAt (s.bitIndex % accWidth) b := by
  simp [appendBit, hp]

/-- All that AppendBit can do: nothing, or an append at some position below the width. -/
theorem appendBit_cases (b : Bool) :
    s.appendBit b = s ∨ ∃ k, k < accWidth ∧ s.appendBit b = s.appendAt k b := by
  unfold appendBit
  cases s.cfg.overrunPolicy with
  | ignore =>
    by_cases h : s.bitIndex < accWidth
    · exact .inr ⟨s.bitIndex, h, by simp [h]⟩
    · exact .inl (by simp [h])
  | wrap => exact .inr ⟨_, Nat.mod_lt _ (by decide), rfl⟩

/-- All that Classify can do: one of the three actions, by the width's band (R104). -/
theorem classify_cases (w : Nat) :
    (pulseClass s.cfg w = .start ∧ s.classify w = s.startAction) ∨
    (pulseClass s.cfg w = .one ∧ s.classify w = s.appendBit true) ∨
    (pulseClass s.cfg w = .zero ∧ s.classify w = s.appendBit false) := by
  unfold classify
  cases pulseClass s.cfg w with
  | start => exact .inl ⟨rfl, rfl⟩
  | one => exact .inr (.inl ⟨rfl, rfl⟩)
  | zero => exact .inr (.inr ⟨rfl, rfl⟩)

/-- AppendBit and Classify write `FrameAccumulator` and `BitIndex` only. -/
theorem appendBit_writes (b : Bool) :
    ∃ acc n, s.appendBit b = (s.writeFrameAccumulator acc).writeBitIndex n := by
  rcases s.appendBit_cases b with h | ⟨k, -, h⟩
  · exact ⟨s.frameAccumulator, s.bitIndex, h⟩
  · cases b with
    | false => exact ⟨s.frameAccumulator, s.bitIndex + 1, h⟩
    | true => exact ⟨_, _, h⟩

theorem classify_writes (w : Nat) :
    ∃ acc n, s.classify w = (s.writeFrameAccumulator acc).writeBitIndex n := by
  rcases s.classify_cases w with ⟨-, h⟩ | ⟨-, h⟩ | ⟨-, h⟩
  · exact ⟨0, 0, h⟩
  · exact h ▸ s.appendBit_writes true
  · exact h ▸ s.appendBit_writes false

/-! ### TimeoutAction -/

theorem timeoutAction_eq : s.timeoutAction = (s.writeDecoderState .waitingForMark).raiseCaptured := rfl

@[simp] theorem timeoutAction_decoderState : s.timeoutAction.decoderState = .waitingForMark := rfl
@[simp] theorem timeoutAction_signalCapturedFlag : s.timeoutAction.signalCapturedFlag = true := rfl

/-! ### Functions of the state -/

theorem armedEdge_eq_rising_iff : s.armedEdge = .rising ↔ s.decoderState = .waitingForMark := by
  unfold armedEdge; cases s.decoderState <;> simp

theorem timerRunning_iff : s.timerRunning = true ↔ s.decoderState = .measuringMark := by
  simp [timerRunning]

theorem currentCommand_of_pair {k : KnownCommand} (h : s.actuator = pairOf k) : s.currentCommand = k := by
  unfold currentCommand; rw [h]; cases k <;> rfl

end State

/-! ### Lookup and Dispatch -/

theorem lookup_codeOf {c : Config} (h : c.CodesDiffer) (k : KnownCommand) : lookup c (codeOf c k) = .known k := by
  cases k with
  | cmdA => simp [lookup, codeOf]
  | cmdB => simp [lookup, codeOf, Ne.symm h]

theorem lookup_eq_known {c : Config} {v : FrameWord} {k : KnownCommand} (h : lookup c v = .known k) :
    v = codeOf c k := by
  unfold lookup at h
  split at h
  · cases h; assumption
  · split at h
    · cases h; assumption
    · cases h

theorem lookup_eq_unrecognized_iff {c : Config} {v : FrameWord} :
    lookup c v = .unrecognized ↔ v ≠ c.codeA ∧ v ≠ c.codeB := by
  unfold lookup
  split
  · rename_i hA
    simp [hA]
  · rename_i hA
    split
    · rename_i hB
      simp [hB]
    · rename_i hB
      simp [hA, hB]

namespace State

variable (s : State)

/-- All that Dispatch can do: write the pair of the command whose code `v` is, or nothing (R138). -/
theorem dispatch_cases (v : FrameWord) (m : Bool) :
    (∃ k, lookup s.cfg v = .known k ∧ s.dispatch v m = s.writeActuator (pairOf k)) ∨
    (lookup s.cfg v = .unrecognized ∧ s.dispatch v m = s) := by
  unfold dispatch
  cases lookup s.cfg v with
  | known k => exact .inl ⟨k, rfl, rfl⟩
  | unrecognized => exact .inr ⟨rfl, rfl⟩

/-- Dispatch writes the actuator only. -/
theorem dispatch_writes (v : FrameWord) (m : Bool) : ∃ a, s.dispatch v m = s.writeActuator a := by
  rcases s.dispatch_cases v m with ⟨k, -, h⟩ | ⟨-, h⟩
  · exact ⟨pairOf k, h⟩
  · exact ⟨s.actuator, h⟩

theorem dispatch_codeOf (h : s.cfg.CodesDiffer) (k : KnownCommand) (m : Bool) :
    s.dispatch (codeOf s.cfg k) m = s.writeActuator (pairOf k) := by
  simp [dispatch, lookup_codeOf h]

theorem dispatch_unrecognized {v : FrameWord} (h : lookup s.cfg v = .unrecognized) (m : Bool) :
    s.dispatch v m = s := by
  simp [dispatch, h]

/-! ### The next stimulus word -/

theorem fetch_nil (h : s.stimuli = []) : s.fetch = none := by
  simp [fetch, h]

theorem fetch_cons {w : StimulusWord} {ws : List StimulusWord} (h : s.stimuli = w :: ws) :
    s.fetch = some (w, s.writeStimuli ws) := by
  simp [fetch, h]

end State

end Sys2Proof.Machine
end

