-- ==== Sys2Proof/Laws/Families.lean ====
section
/-! SUPPORT. What each event-level operation can do, one lemma per operation with every case and its guard, and
which fields each writes at most; the priority chain of the pin level. -/

namespace Sys2Proof.Machine.State

variable (s : State)

/-- All that RISE can do (40_pulse_decoder.md R100, R101). -/
theorem rise_cases :
    (s.decoderState = .waitingForMark ∧ s.rise = (s.writeTickCount 0).writeDecoderState .measuringMark) ∨
    (s.decoderState = .measuringMark ∧ s.rise = s) := by
  unfold rise
  cases s.decoderState with
  | waitingForMark => exact .inl ⟨rfl, rfl⟩
  | measuringMark => exact .inr ⟨rfl, rfl⟩

/-- All that FALL can do (40_pulse_decoder.md R102, R103). -/
theorem fall_cases :
    (s.decoderState = .waitingForMark ∧ s.fall = s) ∨
    (s.decoderState = .measuringMark ∧ s.fall = (s.writeDecoderState .waitingForMark).classify s.tickCount) := by
  unfold fall
  cases s.decoderState with
  | waitingForMark => exact .inl ⟨rfl, rfl⟩
  | measuringMark => exact .inr ⟨rfl, rfl⟩

/-- FALL writes `DecoderState`, `FrameAccumulator` and `BitIndex` at most. -/
theorem fall_writes :
    ∃ d acc n, s.fall = ((s.writeDecoderState d).writeFrameAccumulator acc).writeBitIndex n := by
  rcases s.fall_cases with ⟨-, h⟩ | ⟨-, h⟩
  · exact ⟨s.decoderState, s.frameAccumulator, s.bitIndex, h⟩
  · obtain ⟨acc, n, h'⟩ := (s.writeDecoderState .waitingForMark).classify_writes s.tickCount
    exact ⟨_, acc, n, h.trans h'⟩

/-- All that TICK can do (41_tick_timer_timeout.md R120, R121). -/
theorem tick_cases :
    (s.decoderState = .waitingForMark ∧ s.tick = s) ∨
    (s.decoderState = .measuringMark ∧ s.tickCount < s.cfg.tickMax ∧ s.tick = s.writeTickCount (s.tickCount + 1)) ∨
    (s.decoderState = .measuringMark ∧ s.cfg.tickMax ≤ s.tickCount ∧ s.tick = (s.writeTickCount 0).timeoutAction) := by
  unfold tick
  cases s.decoderState with
  | waitingForMark => exact .inl ⟨rfl, rfl⟩
  | measuringMark =>
    by_cases h : s.tickCount < s.cfg.tickMax
    · exact .inr (.inl ⟨rfl, h, by simp [h]⟩)
    · exact .inr (.inr ⟨rfl, Nat.not_lt.mp h, by simp [h]⟩)

/-- All that TAKE can do (42_frame_dispatcher.md R136, R137). -/
theorem take_cases :
    (s.debState = .confirm ∧ s.take = s) ∨
    (s.debState = .idle ∧ s.signalCapturedFlag = false ∧ s.take = s) ∨
    (s.debState = .idle ∧ s.signalCapturedFlag = true ∧
      s.take = s.clearCaptured.dispatch s.frameAccumulator false) := by
  unfold take
  cases s.debState with
  | confirm => exact .inl ⟨rfl, rfl⟩
  | idle =>
    cases h : s.signalCapturedFlag with
    | false => exact .inr (.inl ⟨rfl, rfl, by simp⟩)
    | true => exact .inr (.inr ⟨rfl, rfl, by simp⟩)

/-- PRESS writes the actuator only. -/
theorem press_writes : ∃ a, s.press = s.writeActuator a := s.dispatch_writes _ _

/-- PRESS writes the pair of the command that is not the current one (43_manual_override.md R150). -/
theorem press_eq (h : s.cfg.CodesDiffer) : s.press = s.writeActuator (pairOf (otherCommand s.currentCommand)) :=
  s.dispatch_codeOf h _ _

/-- All that BTN_SAMPLE can do (43_manual_override.md R152 to R154). -/
theorem btnSample_cases (l : Level) :
    (s.debState = .idle ∧ l = .high ∧ s.btnSample l = s) ∨
    (s.debState = .idle ∧ l = .low ∧ s.btnSample l = (s.writeDebState .confirm).writeDebCount 0) ∨
    (s.debState = .confirm ∧ l = .low ∧ s.btnSample l = s.writeDebCount 0) ∨
    (s.debState = .confirm ∧ l = .high ∧ s.debCount + 1 < s.cfg.debounceConfirmations ∧
      s.btnSample l = s.writeDebCount (s.debCount + 1)) ∨
    (s.debState = .confirm ∧ l = .high ∧ s.cfg.debounceConfirmations ≤ s.debCount + 1 ∧
      s.btnSample l = ((s.writeDebCount 0).writeDebState .idle).press) := by
  unfold btnSample
  cases s.debState with
  | idle =>
    cases l with
    | low => exact .inr (.inl ⟨rfl, rfl, rfl⟩)
    | high => exact .inl ⟨rfl, rfl, rfl⟩
  | confirm =>
    cases l with
    | low => exact .inr (.inr (.inl ⟨rfl, rfl, rfl⟩))
    | high =>
      by_cases h : s.debCount + 1 < s.cfg.debounceConfirmations
      · exact .inr (.inr (.inr (.inl ⟨rfl, rfl, h, by simp [readsPressed, confirmRelease, h]⟩)))
      · exact .inr (.inr (.inr (.inr ⟨rfl, rfl, Nat.not_lt.mp h, by simp [readsPressed, confirmRelease, h]⟩)))

/-! ### The pin level -/

/-- The edge seen in a cycle, and that it is armed (45_pin_level_cycle.md R176). -/
theorem armedEdgeSeen_cases (l : Level) :
    (s.decoderState = .waitingForMark ∧ s.irPrev = .low ∧ l = .high ∧ s.armedEdgeSeen l = some .rising) ∨
    (s.decoderState = .measuringMark ∧ s.irPrev = .high ∧ l = .low ∧ s.armedEdgeSeen l = some .falling) ∨
    (¬ (s.decoderState = .waitingForMark ∧ s.irPrev = .low ∧ l = .high) ∧
      ¬ (s.decoderState = .measuringMark ∧ s.irPrev = .high ∧ l = .low) ∧ s.armedEdgeSeen l = none) := by
  unfold armedEdgeSeen armedEdge seesRise seesFall
  cases s.decoderState <;> cases s.irPrev <;> cases l <;> simp

/-- All that the interrupt side of a cycle can do: at most one operation, in priority order
(45_pin_level_cycle.md R177). -/
theorem interruptSide_cases (pins : Pins) :
    (s.tickOverflows pins = true ∧ s.interruptSide pins = s.tick) ∨
    (s.tickOverflows pins = false ∧ pins.timeoutExt = true ∧ s.interruptSide pins = s.timeoutAction) ∨
    (s.tickOverflows pins = false ∧ pins.timeoutExt = false ∧
      s.armedEdgeSeen pins.irIn = some .rising ∧ s.interruptSide pins = s.rise) ∨
    (s.tickOverflows pins = false ∧ pins.timeoutExt = false ∧
      s.armedEdgeSeen pins.irIn = some .falling ∧ s.interruptSide pins = s.fall) ∨
    (s.tickOverflows pins = false ∧ pins.timeoutExt = false ∧
      s.armedEdgeSeen pins.irIn = none ∧ pins.tickEn = true ∧ s.interruptSide pins = s.tick) ∨
    (s.tickOverflows pins = false ∧ pins.timeoutExt = false ∧
      s.armedEdgeSeen pins.irIn = none ∧ pins.tickEn = false ∧ s.interruptSide pins = s) := by
  unfold interruptSide
  cases s.tickOverflows pins <;> cases pins.timeoutExt <;> rcases h : s.armedEdgeSeen pins.irIn with _ | (_ | _) <;>
    cases pins.tickEn <;> simp

/-- A cycle with `rst` low, side by side (45_pin_level_cycle.md R177). -/
theorem cycle_of_not_rst {pins : Pins} (h : pins.rst = false) :
    s.cycle pins = ((s.mainLoopSide pins).interruptSide pins).writeIrPrev pins.irIn := by
  simp [cycle, h]

/-- A cycle with `rst` high is RESET alone (45_pin_level_cycle.md R177). -/
theorem cycle_of_rst {pins : Pins} (h : pins.rst = true) : s.cycle pins = s.resetAll := by
  simp [cycle, h]

end Sys2Proof.Machine.State
end

