-- ==== Sys2Proof/Laws/PerInstr.lean ====
section
/-! SUPPORT. Statements made per operation. Family MatchesRow: the encoding of an operation matches the opcode
row of its own mnemonic (spec/opcode_table.json), whatever its operands. -/

namespace Sys2Proof.Laws.MatchesRow

/-- The operation's word matches the operation's row of the table. -/
def Statement (i : Instr) : Prop := i.row.matchesWord (encode i) = true

theorem nop : Statement .nop := rfl
theorem rise : Statement .rise := rfl
theorem fall : Statement .fall := rfl
theorem tick : Statement .tick := rfl
theorem timeout : Statement .timeout := rfl
theorem take : Statement .take := rfl
theorem press : Statement .press := rfl
theorem reset : Statement .reset := rfl
theorem btnSample (l : Level) : Statement (.btnSample l) := by cases l <;> rfl
theorem cycle (pins : Pins) : Statement (.cycle pins) := by
  obtain ⟨r, x, p, q, t, i⟩ := pins
  cases r <;> cases x <;> cases p <;> cases q <;> cases t <;> cases i <;> rfl

end Sys2Proof.Laws.MatchesRow
end

