-- ==== Sys2Proof/Laws/Wire.lean ====
section
/-! SUPPORT. Which widths a mark of a given duration can be measured as (spec/70_reset_and_hazards.md R240). -/

namespace Sys2Proof.Machine.Wire

/-- The rounded quotient, one less, or one more. -/
theorem mem_measuredWidths {c : Config} {micros width : Nat} :
    width ∈ measuredWidths c micros ↔ roundedTicks c micros ≤ width + 1 ∧ width ≤ roundedTicks c micros + 1 := by
  unfold measuredWidths
  rw [List.mem_drop_iff_getElem]
  constructor
  · rintro ⟨i, hi, rfl⟩
    simp only [List.length_range] at hi
    simp only [List.getElem_range]
    omega
  · rintro ⟨h₁, h₂⟩
    refine ⟨width - (roundedTicks c micros - 1), ?_, ?_⟩
    · simp only [List.length_range]
      omega
    · simp only [List.getElem_range]
      omega

end Sys2Proof.Machine.Wire
end

