-- ==== Sys2Proof/Tests/Slice0.lean ====
section
/-! SUPPORT. Tests and witnesses. Expected values come from spec/95_test_vectors.md (vectors S1 to T60, cited by
name) and from the tables of spec/30_encoding.md; where none fits, from the rule named. A witness shows that the
hypotheses of the obligation it is named after can be met together. -/

namespace Sys2Proof.Tests

open Machine

/-! ### Small states, in the notation of 95_test_vectors.md -/

/-- The reference parameters with two setpoints written out. -/
def cfg0 : Config := { Config.reference with posWidth := 1, posLeft := 0, posRight := 1 }

/-- The same under `OVERRUN_POLICY = wrap`. -/
def cfgWrap : Config := { cfg0 with overrunPolicy := .wrap }

def onLeft : Actuator := ⟨.on, .left⟩
def offRight : Actuator := ⟨.off, .right⟩

/-- A state of the vectors: `(DecoderState, TickCount, FrameAccumulator, BitIndex, SignalCapturedFlag, Actuator,
(DebState, DebCount))`, `ir_prev` 1. -/
def st (d : DecoderState) (tc : Nat) (acc : FrameWord) (bi : Nat) (f : Bool) (a : Actuator)
    (db : DebState := .idle) (dc : Nat := 0) : State :=
  { cfg := cfg0, decoderState := d, tickCount := tc, frameAccumulator := acc, bitIndex := bi,
    signalCapturedFlag := f, actuator := a, debState := db, debCount := dc, irPrev := .high, draws := 1,
    stimuli := [] }

/-- A state that waits for a mark, and one that measures. -/
def waiting : State := st .waitingForMark 77 0x12345678 9 false offRight
def measuring : State := st .measuringMark 12 0x12345678 9 false offRight

/-- The decoder's fields of the next state. -/
def decoderAfter (i : Instr) (s : State) : Option (DecoderState × Nat × FrameWord × Nat × Bool) :=
  match exec i s with
  | .next t => some (t.decoderState, t.tickCount, t.frameAccumulator, t.bitIndex, t.signalCapturedFlag)
  | .fault _ => none
  | .refused _ => none

/-- The main loop's fields of the next state, with the flag. -/
def mainAfter (i : Instr) (s : State) : Option (Bool × Actuator × DebState × Nat) :=
  match exec i s with
  | .next t => some (t.signalCapturedFlag, t.actuator, t.debState, t.debCount)
  | .fault _ => none
  | .refused _ => none

/-- The reason for which a step is refused. -/
def refusalOf (s : State) : Option Refusal :=
  match step s with
  | .next _ => none
  | .fault _ => none
  | .refused r => some r

/-! ### WellFormed: one ill-formed term per check -/

theorem test_wf_accepts : cfg0.WellFormed ∧ cfgWrap.WellFormed := by decide

theorem test_wf_reference : Config.reference.WellFormed := Config.reference_wellFormed

theorem test_wf_refuses_empty_one_band : ¬ ({ cfg0 with dataOneThreshold := 40 } : Config).WellFormed := by decide

theorem test_wf_refuses_empty_start_band : ¬ ({ cfg0 with startThreshold := 255 } : Config).WellFormed := by decide

theorem test_wf_refuses_equal_codes : ¬ ({ cfg0 with codeB := 0xAA55FB04 } : Config).WellFormed := by decide

theorem test_wf_refuses_equal_setpoints : ¬ ({ cfg0 with posRight := 0 } : Config).WellFormed := by decide

theorem test_wf_refuses_wide_setpoint : ¬ ({ cfg0 with posRight := 2 } : Config).WellFormed := by decide

theorem test_wf_refuses_no_confirmation : ¬ ({ cfg0 with debounceConfirmations := 0 } : Config).WellFormed := by decide

/-- 00_scope.md R11: 5, 30 and 45 ticks must classify as 0, 1 and start. -/
theorem test_scenarios_refuse_low_start : ¬ ({ cfg0 with startThreshold := 29 } : Config).MeetsScenarios := by decide

theorem test_codes_use_last_bit_refuses : ¬ ({ cfg0 with codeA := 0x2A55FB04 } : Config).CodesUseLastBit := by decide

/-- 41_tick_timer_timeout.md R124: an external timeout is not issued without the independent timer. -/
theorem test_admitted_refuses_timeout :
    Instr.AdmittedBy cfg0 .timeout = false ∧
    Instr.AdmittedBy cfg0 (.cycle ⟨false, true, false, false, false, .low⟩) = false ∧
    Instr.AdmittedBy { cfg0 with independentTimeout := true } .timeout = true := by decide

theorem test_trace_refuses_reserved : WellFormedTrace [0x01, 0x0A] = false ∧ WellFormedTrace [0x01, 0x03, 0x02] = true := by
  decide

/-! ### Decoding: words written out from 30_encoding.md R81, R82 -/

theorem test_decode_nop : decode 0b00000000 = .operation .nop := by decide
theorem test_decode_rise : decode 0b00000001 = .operation .rise := by decide
theorem test_decode_fall : decode 0b00000010 = .operation .fall := by decide
theorem test_decode_tick : decode 0b00000011 = .operation .tick := by decide
theorem test_decode_timeout : decode 0b00000100 = .operation .timeout := by decide
theorem test_decode_take : decode 0b00000101 = .operation .take := by decide
theorem test_decode_press : decode 0b00000110 = .operation .press := by decide
theorem test_decode_reset : decode 0b00000111 = .operation .reset := by decide

theorem test_decode_btnSample :
    decode 0b00001000 = .operation (.btnSample .low) ∧ decode 0b00001001 = .operation (.btnSample .high) := by decide

/-- One word per pin, and the words of T57, T58, T51. -/
theorem test_decode_cycle :
    decode 0b11000000 = .operation (.cycle ⟨true, false, false, false, false, .low⟩) ∧
    decode 0b10100000 = .operation (.cycle ⟨false, true, false, false, false, .low⟩) ∧
    decode 0b10010000 = .operation (.cycle ⟨false, false, true, false, false, .low⟩) ∧
    decode 0b10001000 = .operation (.cycle ⟨false, false, false, true, false, .low⟩) ∧
    decode 0b10000100 = .operation (.cycle ⟨false, false, false, false, true, .low⟩) ∧
    decode 0b10000001 = .operation (.cycle ⟨false, false, false, false, false, .high⟩) ∧
    decode 0x99 = .operation (.cycle ⟨false, false, true, true, false, .high⟩) ∧
    decode 0xFC = .operation (.cycle ⟨true, true, true, true, true, .low⟩) ∧
    decode 0xA1 = .operation (.cycle ⟨false, true, false, false, false, .high⟩) := by decide

/-- T45: the reserved words are refused, each under its format. -/
theorem test_decode_reserved :
    decode 0x0A = .reservedFormatE 0x0A ∧ decode 0x7F = .reservedFormatE 0x7F ∧ decode 0x82 = .reservedFormatP 0x82 ∧
    decode 0x83 = .reservedFormatP 0x83 ∧ decode 0xFF = .reservedFormatP 0xFF := by decide

theorem test_encode_cycle : encode (.cycle ⟨false, false, true, true, false, .high⟩) = 0b10011001 := by decide

theorem test_decodeTableWord :
    decodeTableWord 8 0x01 = some .rise ∧ decodeTableWord 8 0x09 = some (.btnSample .high) ∧
    decodeTableWord 8 0x0A = none ∧ decodeTableWord 8 0x101 = none := by decide

/-- T45: the trace is rejected, the word is not skipped. -/
theorem test_decodeTrace_rejects :
    (match decodeTrace [0x01, 0x82, 0x02] with | .ok _ => none | .error e => some e) = some (.reservedFormatP 0x82) := by
  decide

/-! ### Steps and reset -/

theorem test_step_refuses_reserved : refusalOf (State.reset.withFetchWord 8 0x7F) = some (.reservedStimulusWord 0x7F) := by
  rfl

/-- The very next step performs the placed word (R100), and it is consumed. -/
theorem test_step_runs_placed_word :
    step (State.reset.withFetchWord 8 0x01) = .next { State.reset with decoderState := .measuringMark } := by rfl

/-- 70_reset_and_hazards.md R220: the reset pair is that of CommandB. -/
theorem test_reset_actuator : State.reset.actuator = pairOf .cmdB := by decide

/-- 30_encoding.md R91 and 44_actuator_output.md R166, R167. -/
theorem test_reset_outputs :
    State.reset.outputs.indicator = 0 ∧ State.reset.outputs.posSel = 1 ∧ State.reset.outputs.position = Config.reference.posRight :=
  ⟨by decide, by decide, rfl⟩

/-- 10_state.md R23, R28: what is armed, whether the timer runs, the current command. -/
theorem test_derived_functions :
    waiting.armedEdge = .rising ∧ measuring.armedEdge = .falling ∧ waiting.timerRunning = false ∧
    measuring.timerRunning = true ∧ waiting.currentCommand = .cmdB := by decide

/-- 30_encoding.md R91. -/
theorem test_enumeration_bits :
    (Command.known .cmdA).toBits = 0 ∧ (Command.known .cmdB).toBits = 1 ∧ Command.unrecognized.toBits = 2 ∧
    DecoderState.measuringMark.toBits = 1 ∧ DebState.confirm.toBits = 1 ∧ Position.left.toBits = 0 := by decide

/-! ### One step per operation -/

/-- T44. -/
theorem test_nop : decoderAfter .nop measuring = some (.measuringMark, 12, 0x12345678, 9, false) := by decide

/-- T1. -/
theorem test_rise_T1 : decoderAfter .rise waiting = some (.measuringMark, 0, 0x12345678, 9, false) := by decide

/-- T2: the measurement is not restarted. -/
theorem test_rise_T2 : decoderAfter .rise measuring = some (.measuringMark, 12, 0x12345678, 9, false) := by decide

/-- T3d to T3h: the bounds of the three bands. -/
theorem test_fall_T3 :
    [16, 17, 40, 41].map (fun pw => decoderAfter .fall (st .measuringMark pw 0 3 false offRight)) =
      [some (.waitingForMark, 16, 0, 4, false), some (.waitingForMark, 17, 8, 4, false),
       some (.waitingForMark, 40, 8, 4, false), some (.waitingForMark, 41, 0, 0, false)] := by decide

/-- T5, T6, T7, T9a, then T9b and T9d under `wrap`. -/
theorem test_fall_accumulates :
    [st .measuringMark 30 5 3 false offRight, st .measuringMark 5 0xFFFFFFFF 3 false offRight,
     st .measuringMark 30 0x2A55FB04 31 false offRight, st .measuringMark 30 0xAA55FB04 32 false offRight,
     { st .measuringMark 30 0xAA55FB04 32 false offRight with cfg := cfgWrap },
     { st .measuringMark 30 0 37 false offRight with cfg := cfgWrap }].map (decoderAfter .fall) =
      [some (.waitingForMark, 30, 0xD, 4, false), some (.waitingForMark, 5, 0xFFFFFFFF, 4, false),
       some (.waitingForMark, 30, 0xAA55FB04, 32, false), some (.waitingForMark, 30, 0xAA55FB04, 32, false),
       some (.waitingForMark, 30, 0xAA55FB05, 33, false), some (.waitingForMark, 30, 0x20, 38, false)] := by decide

/-- T11, T13. -/
theorem test_tick_T13 :
    decoderAfter .tick (st .measuringMark 254 7 3 false offRight) = some (.measuringMark, 255, 7, 3, false) ∧
    decoderAfter .tick waiting = some (.waitingForMark, 77, 0x12345678, 9, false) := by decide

/-- T14: the overflow. -/
theorem test_tick_T14 :
    decoderAfter .tick (st .measuringMark 255 7 3 false offRight) = some (.waitingForMark, 0, 7, 3, true) := by decide

/-- T20: the count is held. -/
theorem test_timeout_T20 :
    decoderAfter .timeout (st .measuringMark 100 0xAD52FB04 32 false offRight) =
      some (.waitingForMark, 100, 0xAD52FB04, 32, true) := by decide

/-- T24, T25, T28: the index is not checked. -/
theorem test_take_T24 :
    mainAfter .take (st .waitingForMark 0 0xAA55FB04 8 true offRight) = some (false, onLeft, .idle, 0) ∧
    mainAfter .take (st .waitingForMark 0 0xAD52FB04 32 true onLeft) = some (false, offRight, .idle, 0) := by decide

/-- T23, T27, T29. -/
theorem test_take_T27 :
    mainAfter .take (st .waitingForMark 0 0x04FB55AA 32 true onLeft) = some (false, onLeft, .idle, 0) ∧
    mainAfter .take (st .waitingForMark 0 0xAA55FB04 32 false offRight) = some (false, offRight, .idle, 0) ∧
    mainAfter .take (st .waitingForMark 0 0xAA55FB04 32 true offRight .confirm 2) = some (true, offRight, .confirm, 2) := by
  decide

/-- T31, T32. -/
theorem test_press_T31 :
    mainAfter .press (st .measuringMark 3 0 0 true onLeft) = some (true, offRight, .idle, 0) ∧
    mainAfter .press (st .measuringMark 3 0 0 true offRight) = some (true, onLeft, .idle, 0) := by decide

/-- T43: the fields the rule fixes. -/
theorem test_reset_T43 :
    mainAfter .reset (st .measuringMark 200 0xAA55FB04 32 true onLeft .confirm 3) = some (false, offRight, .idle, 0) := by
  decide

/-- S8: RESET with `RESET_COMMAND = CmdA`. -/
theorem test_reset_cmdA :
    mainAfter .reset { waiting with cfg := { cfg0 with resetCommand := .cmdA } } = some (false, onLeft, .idle, 0) := by decide

/-- T36, T37, T35. -/
theorem test_btnSample_low :
    mainAfter (.btnSample .low) (st .waitingForMark 0 0 0 false onLeft) = some (false, onLeft, .confirm, 0) ∧
    mainAfter (.btnSample .low) (st .waitingForMark 0 0 0 false onLeft .confirm 4) = some (false, onLeft, .confirm, 0) ∧
    mainAfter (.btnSample .high) (st .waitingForMark 0 0 0 false onLeft) = some (false, onLeft, .idle, 0) := by decide

/-- T38, T39. -/
theorem test_btnSample_high :
    mainAfter (.btnSample .high) (st .waitingForMark 0 0 0 false onLeft .confirm 3) = some (false, onLeft, .confirm, 4) ∧
    mainAfter (.btnSample .high) (st .waitingForMark 0 0 0 false onLeft .confirm 4) = some (false, offRight, .idle, 0) := by
  decide

/-- T46, T48, T50, T54: the priorities of the interrupt side. -/
theorem test_cycle_interrupt_side :
    [decoderAfter (.cycle ⟨false, false, false, false, true, .low⟩) (st .measuringMark 30 0 0 false offRight),
     decoderAfter (.cycle ⟨false, false, false, false, true, .low⟩) (st .measuringMark 255 0xAD52FB04 32 false offRight),
     decoderAfter (.cycle ⟨false, false, false, false, false, .low⟩) (st .measuringMark 255 0x77 9 false offRight),
     decoderAfter (.cycle ⟨false, true, false, false, true, .high⟩) (st .measuringMark 100 0x77 9 false offRight)] =
      [some (.waitingForMark, 30, 1, 1, false), some (.waitingForMark, 0, 0xAD52FB04, 32, true),
       some (.waitingForMark, 255, 0, 0, false), some (.waitingForMark, 100, 0x77, 9, true)] := by decide

/-- T55, T57, T58: the main-loop side runs first; `rst` overrides every other pin. -/
theorem test_cycle_main_loop_side :
    mainAfter (.cycle ⟨false, false, false, true, true, .high⟩) (st .measuringMark 255 0xAA55FB04 32 true offRight) =
      some (true, onLeft, .idle, 0) ∧
    mainAfter (.cycle ⟨false, false, true, true, false, .high⟩) (st .waitingForMark 0 0xAA55FB04 32 true offRight) =
      some (false, offRight, .idle, 0) ∧
    mainAfter (.cycle ⟨true, true, true, true, true, .low⟩) (st .measuringMark 200 0xAA55FB04 32 true onLeft) =
      some (false, offRight, .idle, 0) := by decide

/-! ### Traces and wire frames -/

/-- S8: 929 words after the RESET. Program 1's marks: `START`, 32 data marks. -/
theorem test_send_length : (Pseudo.send 0xAD52FB04).length = 929 ∧ (Pseudo.send 0xAA55FB04).length = 929 := by
  decide +kernel

/-- 30_encoding.md R87. -/
theorem test_mark : Pseudo.mark 2 = [.rise, .tick, .tick, .fall] := by decide

/-- 30_encoding.md R72: idle, start sequence, 32 spaces and marks, a trailing space, silence; the first ONE of
`0xAA55FB04` is its bit 2. -/
theorem test_wire_frame :
    (Wire.frame 0 0 0xAA55FB04).length = 69 ∧
    ((Wire.frame 0 0 0xAA55FB04)[4]?).map (·.micros) = some 600 ∧
    ((Wire.frame 0 0 0xAA55FB04)[8]?).map (·.micros) = some 1680 := by decide

/-- S10: 0.6 ms is a ZERO, 1.68 ms a ONE, 13.4 ms a START. -/
theorem test_wire_classes :
    (Wire.measuredWidths cfg0 600).map (pulseClass cfg0) = [.zero, .zero, .zero] ∧
    (Wire.measuredWidths cfg0 1680).map (pulseClass cfg0) = [.one, .one, .one] ∧
    Wire.measuredWidths cfg0 13400 = [208, 209, 210] ∧
    [208, 209, 210].map (pulseClass cfg0) = [.start, .start, .start] := by decide +kernel

/-- 70_reset_and_hazards.md R240: one less or one more than the rounded quotient; Program 4: a mark of 210 periods is
measured 209, one of 6 periods 5. -/
theorem test_measured_widths :
    Wire.measuredWidths cfg0 (210 * 64) = [209, 210, 211] ∧ Wire.measuredWidths cfg0 0 = [0, 1] ∧
    Wire.tickInstantsBetween cfg0 0 (6 * 64) = 5 ∧ Wire.tickInstantsBetween cfg0 1 (6 * 64) = 6 := by decide +kernel

/-- 41_tick_timer_timeout.md: 256 ticks of 64 us. -/
theorem test_timeout_ticks : cfg0.timeoutTicks = 256 ∧ cfg0.timeoutTicks * cfg0.tickPeriodMicros = 16384 := by decide

/-- 30_encoding.md R86. -/
theorem test_parse_trace :
    TraceText.parseTrace "RISE; TICK # one tick\nFALL\nBTN_SAMPLE 0; CYCLE 0,0,1,1,0,1".toList =
      some [.rise, .tick, .fall, .btnSample .low, .cycle ⟨false, false, true, true, false, .high⟩] := by decide

/-- Log 16: blanks around an operand, none inside one. -/
theorem test_parse_blanks :
    TraceText.parseTrace " CYCLE  0, 0 ,1,1,0,1 ".toList = some [.cycle ⟨false, false, true, true, false, .high⟩] ∧
    TraceText.parseTrace "TICKS 2 ".toList = some [.tick, .tick] ∧ TraceText.parseTrace "TICKS 1 0".toList = none := by
  decide

theorem test_parse_refuses : TraceText.parseTrace "RISE; JUMP".toList = none ∧ TraceText.parseTrace "BTN_SAMPLE 2".toList = none := by
  decide

/-! ### Witnesses: the hypotheses of each obligation, met together -/

theorem witness_StepPerformsDecodedOperation :
    ({ waiting with stimuli := [0x01, 0x03] } : State).stimuli = 0x01 :: [0x03] ∧ decode 0x01 = .operation .rise ∧
    waiting.stimuli = [] := by decide

theorem witness_ReservedWordsAreRefused :
    ({ waiting with stimuli := [0x0A] } : State).stimuli = 0x0A :: [] ∧ (0x0A#8 ≤ 0x0A#8 ∧ 0x0A#8 ≤ 0x7F#8) ∧
    (0x0A#8 ≤ 0x7F#8 ∧ 0x7F#8 ≤ 0x7F#8) ∧
    ((0x82#8).getLsbD 7 = true ∧ (0x82#8).getLsbD 1 = true) ∧
    ((0xFF#8).getLsbD 7 = true ∧ (0xFF#8).getLsbD 1 = true) := by decide

theorem witness_EncodeOfDecodeIsIdentity : decode 0x09 = .operation (.btnSample .high) := by decide

theorem witness_ExactlyOneOpcodeRowMatches :
    decode 0x81 = .operation (.cycle ⟨false, false, false, false, false, .high⟩) ∧ spellsOperation 0x82 = false ∧
    spellsOperation 0x0A = false := by decide

theorem witness_WellFormedTraceNeverStops :
    WellFormedTrace ({ waiting with stimuli := [0x01, 0x03, 0x02, 0x8D] } : State).stimuli = true := by decide

theorem witness_RiseStartsMeasurement : waiting.decoderState = .waitingForMark := by decide

theorem witness_UnarmedEdgesChangeNothing :
    measuring.decoderState = .measuringMark ∧ waiting.decoderState = .waitingForMark := by decide

/-- At the first START width. -/
theorem witness_StartPulseResetsFrame :
    (st .measuringMark 41 0xDEADBEEF 7 true onLeft).decoderState = .measuringMark ∧
    (st .measuringMark 41 0xDEADBEEF 7 true onLeft).cfg.startThreshold < (st .measuringMark 41 0xDEADBEEF 7 true onLeft).tickCount ∧
    Instr.fall ≠ .reset ∧ (∀ pins, Instr.fall ≠ .cycle pins) ∧
    ∃ t, exec .fall (st .measuringMark 41 0xDEADBEEF 7 true onLeft) = .next t ∧ 0xDEADBEEF#32 ≠ 0 ∧ t.frameAccumulator = 0 :=
  ⟨by decide, by decide, by decide, (fun _ h => nomatch h), _, rfl, by decide, by decide⟩

/-- At both ends of the ONE band and of the index. -/
theorem witness_OnePulseSetsIndexedBit :
    ∀ s ∈ [st .measuringMark 17 0 0 false offRight, st .measuringMark 40 0x2A55FB04 31 false offRight],
      s.decoderState = .measuringMark ∧ s.cfg.dataOneThreshold < s.tickCount ∧ s.tickCount ≤ s.cfg.startThreshold ∧
      s.bitIndex ≤ 31 := by decide

/-- At both ends of the ZERO band and of the index. -/
theorem witness_ZeroPulseAdvancesIndex :
    ∀ s ∈ [st .measuringMark 0 0 0 false offRight, st .measuringMark 16 0 31 false offRight],
      s.cfg.WellFormed ∧ s.decoderState = .measuringMark ∧ s.tickCount ≤ s.cfg.dataOneThreshold ∧ s.bitIndex ≤ 31 := by
  decide

/-- The three clauses: `ignore`, a ONE and a ZERO under `wrap`, at their bounds. -/
theorem witness_OverrunPulseFollowsPolicy :
    (∀ s ∈ [st .measuringMark 40 0 32 false offRight, { st .measuringMark 17 0 32 false offRight with cfg := cfgWrap },
        { st .measuringMark 16 0 37 false offRight with cfg := cfgWrap }],
      s.decoderState = .measuringMark ∧ s.tickCount ≤ s.cfg.startThreshold ∧ 32 ≤ s.bitIndex) ∧
    (st .measuringMark 40 0 32 false offRight).cfg.overrunPolicy = .ignore ∧ cfgWrap.overrunPolicy = .wrap ∧
    cfgWrap.dataOneThreshold < 17 ∧ 16 ≤ cfgWrap.dataOneThreshold := by decide

theorem witness_TickCountsOnlyWhileRunning :
    (st .measuringMark 254 0 0 false offRight).decoderState = .measuringMark ∧
    (st .measuringMark 254 0 0 false offRight).tickCount < (st .measuringMark 254 0 0 false offRight).cfg.tickMax ∧
    waiting.decoderState = .waitingForMark := by decide

theorem witness_TickOverflowServesTimeout :
    (st .measuringMark 255 0 0 false offRight).decoderState = .measuringMark ∧
    (st .measuringMark 255 0 0 false offRight).tickCount = (st .measuringMark 255 0 0 false offRight).cfg.tickMax := by decide

/-- The four clauses: the two codes, an unrecognized word, the flag clear. -/
theorem witness_TakeConsumesHandOff :
    (∀ s ∈ [st .waitingForMark 0 0xAA55FB04 32 true offRight, st .waitingForMark 0 0xAD52FB04 32 true onLeft,
        st .waitingForMark 0 0xAA55FB05 32 true onLeft],
      s.cfg.CodesDiffer ∧ s.debState = .idle ∧ s.signalCapturedFlag = true) ∧
    cfg0.codeA = 0xAA55FB04 ∧ cfg0.codeB = 0xAD52FB04 ∧ (0xAA55FB05#32 ≠ cfg0.codeA ∧ 0xAA55FB05#32 ≠ cfg0.codeB) ∧
    waiting.debState = .idle ∧ waiting.signalCapturedFlag = false := by decide

theorem witness_HeldTakeChangesNothing : (st .waitingForMark 0 0xAA55FB04 32 true offRight .confirm 2).debState = .confirm := by
  decide

theorem witness_DispatchMapsCodesToPairs :
    0xAA55FB04#32 = waiting.cfg.codeA ∧ (0xAD52FB04#32 ≠ waiting.cfg.codeA ∧ 0xAD52FB04#32 = waiting.cfg.codeB) ∧
    (0x2A55FB04#32 ≠ waiting.cfg.codeA ∧ 0x2A55FB04#32 ≠ waiting.cfg.codeB) := by decide

theorem witness_PressTogglesCommand :
    waiting.cfg.CodesDiffer ∧ (st .waitingForMark 0 0 0 false onLeft).actuator.indicator = .on ∧
    waiting.actuator.indicator = .off ∧ LegalActuator waiting.actuator := by decide

theorem witness_IdleSampleDetectsPress : waiting.debState = .idle := by decide

theorem witness_BounceResetsConfirmation : (st .waitingForMark 0 0 0 false onLeft .confirm 4).debState = .confirm := by decide

/-- Both clauses where they meet: three confirmations seen, and four. -/
theorem witness_LastConfirmationPresses :
    (st .waitingForMark 0 0 0 false onLeft .confirm 3).debState = .confirm ∧ 3 + 1 < cfg0.debounceConfirmations ∧
    (st .waitingForMark 0 0 0 false onLeft .confirm 4).debState = .confirm ∧ cfg0.debounceConfirmations ≤ 4 + 1 := by decide

theorem witness_PowerOnIsOneReset : State.reset.cfg = Config.reference := rfl

theorem witness_ResetPinOverridesCycle : (⟨true, true, true, true, true, .low⟩ : Pins).rst = true := by decide

theorem witness_CycleIsEventLevelRun : (⟨false, true, true, true, true, .low⟩ : Pins).rst = false := by decide

/-- Both clauses: an overflow, and an external timeout with a tick one below the overflow. -/
theorem witness_TimeoutBeatsEdge :
    ((⟨false, false, false, false, true, .low⟩ : Pins).rst = false ∧
      (st .measuringMark 255 0 0 false offRight).decoderState = .measuringMark ∧
      (⟨false, false, false, false, true, .low⟩ : Pins).tickEn = true ∧
      (st .measuringMark 255 0 0 false offRight).tickCount = (st .measuringMark 255 0 0 false offRight).cfg.tickMax) ∧
    (¬ ((st .measuringMark 254 0 0 false offRight).decoderState = .measuringMark ∧ true = true ∧
        (st .measuringMark 254 0 0 false offRight).tickCount = (st .measuringMark 254 0 0 false offRight).cfg.tickMax) ∧
      (⟨false, true, false, false, true, .low⟩ : Pins).timeoutExt = true) := by decide

/-- Both clauses: a falling edge at the last count below the overflow (T46's pins), a rising edge (T47). -/
theorem witness_EdgeBeatsTick :
    ((⟨false, false, false, false, true, .low⟩ : Pins).rst = false ∧
      (⟨false, false, false, false, true, .low⟩ : Pins).timeoutExt = false ∧
      (st .measuringMark 254 0 0 false offRight).decoderState = .measuringMark ∧
      (st .measuringMark 254 0 0 false offRight).tickCount < (st .measuringMark 254 0 0 false offRight).cfg.tickMax ∧
      (st .measuringMark 254 0 0 false offRight).irPrev = .high) ∧
    ((⟨false, false, false, false, true, .high⟩ : Pins).irIn = .high ∧
      ({ waiting with irPrev := .low } : State).decoderState = .waitingForMark ∧
      ({ waiting with irPrev := .low } : State).irPrev = .low) := by decide

theorem witness_MainLoopSideRunsFirst :
    let s := st .measuringMark 255 0xAA55FB04 32 true offRight
    let pins : Pins := ⟨false, false, true, true, true, .high⟩
    Inv s ∧ pins.rst = false ∧ pins.pollEn = true ∧ s.debState = .idle ∧ s.signalCapturedFlag = true ∧
      s.frameAccumulator = codeOf s.cfg .cmdA :=
  ⟨⟨by decide, by decide, by decide, by decide, by decide, by decide⟩, by decide⟩

theorem witness_HighCyclesAreCounted :
    ({ waiting with irPrev := .low } : State).decoderState = .waitingForMark ∧
    ({ waiting with irPrev := .low } : State).irPrev = .low ∧ 255 ≤ ({ waiting with irPrev := .low } : State).cfg.tickMax := by
  decide

theorem witness_CycleKeepsPinLevelInvariant :
    PinLevelInv measuring ∧ ∃ t, exec (.cycle ⟨false, false, false, false, true, .high⟩) measuring = .next t :=
  ⟨fun _ => rfl, _, rfl⟩

/-- Each operation the frame names, and a state whose flag is set. -/
theorem witness_InterruptOperationsFrame :
    ∀ i ∈ [Instr.rise, .fall, .tick, .timeout], i.context = .interrupt ∧
      (∃ t, exec i (st .measuringMark 255 0 0 true offRight) = .next t) ∧
      (st .measuringMark 255 0 0 true offRight).signalCapturedFlag = true := by
  intro i hi
  refine ⟨?_, ?_, rfl⟩
  · revert i; decide
  · cases i <;> exact ⟨_, rfl⟩

theorem witness_MainLoopOperationsFrame :
    ∀ i ∈ [Instr.take, .press, .btnSample .low, .btnSample .high], i.context = .mainLoop ∧
      (∃ t, exec i (st .waitingForMark 0 0xAA55FB04 32 false offRight .confirm 4) = .next t) := by
  intro i hi
  refine ⟨?_, ?_⟩
  · revert i; decide
  · cases i <;> exact ⟨_, rfl⟩

theorem witness_ResetAndCycleFrame :
    (∃ t, exec .reset measuring = .next t) ∧
    (∃ t, exec (.cycle ⟨false, true, true, true, true, .low⟩) measuring = .next t) :=
  ⟨⟨_, rfl⟩, ⟨_, rfl⟩⟩

theorem witness_DecoderIgnoresMainLoop :
    Instr.context .fall = .interrupt ∧
    SameDecoderPart (st .measuringMark 30 5 3 false offRight) (st .measuringMark 30 5 3 true onLeft .confirm 2) ∧
    (∃ t, exec .fall (st .measuringMark 30 5 3 false offRight) = .next t) ∧
    (∃ t, exec .fall (st .measuringMark 30 5 3 true onLeft .confirm 2) = .next t) :=
  ⟨rfl, ⟨rfl, rfl, rfl, rfl, rfl⟩, ⟨_, rfl⟩, ⟨_, rfl⟩⟩

/-- Both clauses: a rise while waiting, an overflowing tick while measuring. -/
theorem witness_DecoderStateTransitions :
    (∀ pins, Instr.rise ≠ .cycle pins) ∧ (∃ t, exec .rise waiting = .next t) ∧ waiting.decoderState = .waitingForMark ∧
    (∀ pins, Instr.tick ≠ .cycle pins) ∧ (∃ t, exec .tick (st .measuringMark 255 0 0 false offRight) = .next t) ∧
    (st .measuringMark 255 0 0 false offRight).decoderState = .measuringMark :=
  ⟨(fun _ h => nomatch h), ⟨_, rfl⟩, rfl, (fun _ h => nomatch h), ⟨_, rfl⟩, rfl⟩

/-- Both clauses: an overflow raises the flag, a TAKE clears it. -/
theorem witness_FlagTransitionsAreOwned :
    (∃ t, exec .tick (st .measuringMark 255 0 0 false offRight) = .next t ∧ t.signalCapturedFlag = true) ∧
    (st .measuringMark 255 0 0 false offRight).signalCapturedFlag = false ∧
    (∃ t, exec .take (st .waitingForMark 0 0 0 true offRight) = .next t ∧ t.signalCapturedFlag = false) ∧
    (st .waitingForMark 0 0 0 true offRight).signalCapturedFlag = true :=
  ⟨⟨_, rfl, rfl⟩, rfl, ⟨_, rfl, rfl⟩, rfl⟩

/-- A ONE at the last position, and the start pulse that a clock cycle ends. -/
theorem witness_AccumulatorNeverLosesOneBit :
    let pins : Pins := ⟨false, false, false, false, true, .low⟩
    Instr.fall ≠ .reset ∧ (∀ pins, Instr.fall = .cycle pins → pins.rst = false) ∧
    (∃ t, exec .fall (st .measuringMark 40 0x2A55FB04 31 false offRight) = .next t) ∧
    pins.rst = false ∧ interruptOps (st .measuringMark 41 0xDEADBEEF 7 false offRight) pins = [.fall] ∧
    (∃ t, exec (.cycle pins) (st .measuringMark 41 0xDEADBEEF 7 false offRight) = .next t) :=
  ⟨by decide, (fun _ h => nomatch h), ⟨_, rfl⟩, rfl, by decide, _, rfl⟩

/-- The four clauses on the pair, and a step that changes the outputs. -/
theorem witness_OutputsFollowDispatchedCommand :
    (st .waitingForMark 0 0 0 false onLeft).actuator.indicator = .on ∧ waiting.actuator.indicator = .off ∧
    (st .waitingForMark 0 0 0 false onLeft).actuator.position = .left ∧ waiting.actuator.position = .right ∧
    (∃ t, exec .press waiting = .next t ∧ t.outputs ≠ waiting.outputs) :=
  ⟨rfl, rfl, rfl, rfl, _, rfl, by decide⟩

theorem witness_StepKeepsInvariants :
    let s : State := { measuring with stimuli := [0x02] }
    Inv s ∧ ∃ t, step s = .next t :=
  ⟨⟨by decide, by decide, by decide, by decide, by decide, by decide⟩, _, rfl⟩

/-- Both clauses: a start pulse, and a ONE at the last position. -/
theorem witness_UnwrittenBitsStayClear :
    ((st .measuringMark 41 0xDEADBEEF 7 false offRight).decoderState = .measuringMark ∧
      (st .measuringMark 41 0xDEADBEEF 7 false offRight).cfg.startThreshold < 41 ∧
      ∃ t, exec .fall (st .measuringMark 41 0xDEADBEEF 7 false offRight) = .next t) ∧
    (Instr.fall ≠ .reset ∧ (∀ pins, Instr.fall = .cycle pins → pins.rst = false) ∧
      UnwrittenBitsClear (st .measuringMark 40 0x2A55FB04 31 false offRight) ∧
      ∃ t, exec .fall (st .measuringMark 40 0x2A55FB04 31 false offRight) = .next t) :=
  ⟨⟨rfl, by decide, _, rfl⟩, by decide, (fun _ h => nomatch h), by
    intro k h1 h2
    have hk : k = 31 := Nat.le_antisymm (Nat.le_of_lt_succ h2) h1
    subst hk
    decide, _, rfl⟩

theorem witness_PartialFrameNeverMatches :
    (st .waitingForMark 0 0x2A55FB04 31 true offRight).cfg.CodesUseLastBit ∧
    UnwrittenBitsClear (st .waitingForMark 0 0x2A55FB04 31 true offRight) ∧
    (st .waitingForMark 0 0x2A55FB04 31 true offRight).bitIndex ≤ 31 ∧
    (st .waitingForMark 0 0x2A55FB04 31 true offRight).debState = .idle :=
  ⟨by decide, by
    intro k h1 h2
    have hk : k = 31 := Nat.le_antisymm (Nat.le_of_lt_succ h2) h1
    subst hk
    decide, by decide, by decide⟩

theorem witness_IdleWithoutSamples :
    (∀ l, Instr.btnSample l ∉ [Instr.rise, .press, .take]) ∧ waiting.debState = .idle ∧ waiting.debCount = 0 :=
  ⟨by intro l h; simp at h, rfl, rfl⟩

theorem witness_MarkIsMeasuredExactly : waiting.decoderState = .waitingForMark ∧ 255 ≤ waiting.cfg.tickMax := by decide

theorem witness_SilencePublishesFrame : waiting.decoderState = .waitingForMark := by decide

/-- Widths at the bounds of both data bands, for alternating bits. -/
theorem witness_FrameIsAssembledLeastSignificantFirst :
    let b : Nat → Bool := fun k => k % 2 == 1
    let width : Nat → Nat := fun k => if k % 2 == 1 then 40 else 16
    waiting.cfg.WellFormed ∧ waiting.decoderState = .waitingForMark ∧ waiting.cfg.startThreshold < 41 ∧
      41 ≤ waiting.cfg.tickMax ∧
      (∀ k, k < 32 → b k = true → waiting.cfg.dataOneThreshold < width k ∧ width k ≤ waiting.cfg.startThreshold) ∧
      (∀ k, k < 32 → b k = false → width k ≤ waiting.cfg.dataOneThreshold) := by decide

theorem witness_SentCommandDrivesActuator :
    waiting.cfg.WellFormed ∧ waiting.cfg.MeetsScenarios ∧ waiting.cfg.tickWidth = 8 ∧
    waiting.decoderState = .waitingForMark ∧ waiting.debState = .idle := by decide

theorem witness_StartlessBurstIsIgnored :
    let s := st .waitingForMark 30 0xAA55FB04 32 false offRight
    s.cfg.WellFormed ∧ s.cfg.overrunPolicy = .ignore ∧ s.decoderState = .waitingForMark ∧ 32 ≤ s.bitIndex ∧
      (∀ w ∈ [0, 16, 17, 40], w ≤ s.cfg.startThreshold) := by decide

/-- A rise, a tick, another TIMEOUT and a PRESS after the flag is up; the debouncer stays idle. -/
theorem witness_TimeoutsMerge :
    let s := st .waitingForMark 77 0xAA55FB04 32 true offRight
    s.signalCapturedFlag = true ∧
    (∀ i ∈ [Instr.rise, .tick, .timeout, .press], i ≠ .take ∧ i ≠ .reset ∧ ∀ pins, i ≠ .cycle pins) ∧
    (∃ t, runOps [.rise, .tick, .timeout, .press] s = .next t ∧ t.debState = .idle) :=
  ⟨rfl, by simp, _, rfl, rfl⟩

theorem witness_HeldButtonHoldsTake : waiting.debState = .idle := by decide

theorem witness_MeasuredWidthIsRoundedOrOneOff : 0 < cfg0.tickPeriodMicros ∧ 63 < cfg0.tickPeriodMicros := by decide

/-- Both clauses where they meet: four released samples, and five. -/
theorem witness_ClickPressesOnce :
    waiting.cfg.WellFormed ∧ waiting.debState = .idle ∧ waiting.debCount = 0 ∧ 4 < waiting.cfg.debounceConfirmations ∧
    waiting.cfg.debounceConfirmations ≤ 5 := by decide

end Sys2Proof.Tests
end

section
/-! SUPPORT. Runs of the pseudo-operations of spec/30_encoding.md R87: what a space and a mark do. -/

namespace Sys2Proof.Machine

/-! ### Runs of operations -/

theorem runOps_cons_of_next {i : Instr} {s t : State} (h : exec i s = .next t) (is : List Instr) :
    runOps (i :: is) s = runOps is t := by
  simp [runOps, h]

theorem runOps_append {is : List Instr} {s t : State} (h : runOps is s = .next t) (js : List Instr) :
    runOps (is ++ js) s = runOps js t := by
  induction is generalizing s with
  | nil =>
    cases h
    rfl
  | cons i is ih =>
    cases hi : exec i s with
    | next u =>
      rw [runOps_cons_of_next hi] at h
      rw [List.cons_append, runOps_cons_of_next hi, ih h]
    | fault r => simp [runOps, hi] at h
    | refused r => simp [runOps, hi] at h

/-! ### A running measurement -/

/-- `s` inside a mark, `c` ticks after the rise. -/
def State.measuringAt (s : State) (c : Nat) : State := (s.writeTickCount c).writeDecoderState .measuringMark

namespace State

variable {s : State}

theorem rise_of_waiting (hw : s.decoderState = .waitingForMark) : s.rise = s.measuringAt 0 := by
  simp [rise, hw, measuringAt]

theorem tick_of_waiting (hw : s.decoderState = .waitingForMark) : s.tick = s := by
  simp [tick, hw]

theorem tick_measuringAt {c : Nat} (hc : c < s.cfg.tickMax) : (s.measuringAt c).tick = s.measuringAt (c + 1) :=
  if_pos hc

/-- The fall ends the measurement and classifies its width; the stopped timer keeps the count (R103). -/
theorem fall_measuringAt (hw : s.decoderState = .waitingForMark) (c : Nat) :
    (s.measuringAt c).fall = (s.writeTickCount c).classify c := by
  have hstopped : (s.measuringAt c).writeDecoderState .waitingForMark = s.writeTickCount c := by
    rw [← hw]
    rfl
  exact congrArg (classify · c) hstopped

end State

/-! ### Ticks, spaces and marks -/

theorem runOps_ticks_succ (n : Nat) (s : State) :
    runOps (Pseudo.ticks (n + 1)) s = runOps (Pseudo.ticks n) s.tick :=
  runOps_cons_of_next rfl _

/-- A stopped timer counts nothing (R120), so a space changes nothing. -/
theorem runOps_space {s : State} (hw : s.decoderState = .waitingForMark) (n : Nat) :
    runOps (Pseudo.space n) s = .next s := by
  unfold Pseudo.space
  induction n with
  | zero => rfl
  | succ n ih => rw [runOps_ticks_succ, State.tick_of_waiting hw, ih]

/-- A running timer counts every tick up to `TICK_MAX` (R120). -/
theorem runOps_ticks_measuringAt {s : State} {n c : Nat} (h : c + n ≤ s.cfg.tickMax) :
    runOps (Pseudo.ticks n) (s.measuringAt c) = .next (s.measuringAt (c + n)) := by
  induction n generalizing c with
  | zero => rfl
  | succ n ih =>
    rw [runOps_ticks_succ, State.tick_measuringAt (by omega), ih (by omega), Nat.add_right_comm, Nat.add_assoc]

/-- A mark of `n` ticks is classified by the width `n`, which stays in the stopped timer. -/
theorem runOps_mark {s : State} (hw : s.decoderState = .waitingForMark) {n : Nat} (hn : n ≤ s.cfg.tickMax) :
    runOps (Pseudo.mark n) s = .next ((s.writeTickCount n).classify n) := by
  have hrise : exec .rise s = .next (s.measuringAt 0) := congrArg Host.Outcome.next (State.rise_of_waiting hw)
  have hticks : runOps (Pseudo.ticks n) (s.measuringAt 0) = .next (s.measuringAt n) := by
    have h := runOps_ticks_measuringAt (s := s) (n := n) (c := 0) (by omega)
    rwa [Nat.zero_add] at h
  have hfall : exec .fall (s.measuringAt n) = .next ((s.writeTickCount n).classify n) :=
    congrArg Host.Outcome.next (State.fall_measuringAt hw n)
  rw [Pseudo.mark, runOps_cons_of_next hrise, runOps_append hticks, runOps_cons_of_next hfall, runOps]

end Sys2Proof.Machine
end

section
/-! SUPPORT. The frame word as a number: the bits of a frame summed least significant first, and how one data pulse
extends the sum (spec/30_encoding.md R74, spec/40_pulse_decoder.md R106, R107). -/

namespace Sys2Proof.Machine

/-- The first `n` bits of `b` as a number, least significant first (R74). -/
def frameSum (b : Nat → Bool) (n : Nat) : Nat := ((List.range n).map (fun k => (b k).toNat * 2 ^ k)).sum

/-- The accumulator that holds the first `n` bits of `b`. -/
def frameWord (b : Nat → Bool) (n : Nat) : FrameWord := BitVec.ofNat accWidth (frameSum b n)

theorem frameSum_succ (b : Nat → Bool) (n : Nat) : frameSum b (n + 1) = frameSum b n + (b n).toNat * 2 ^ n := by
  simp [frameSum, List.range_succ]

theorem frameSum_lt (b : Nat → Bool) (n : Nat) : frameSum b n < 2 ^ n := by
  induction n with
  | zero => simp [frameSum]
  | succ n ih =>
    have hbit : (b n).toNat * 2 ^ n ≤ 1 * 2 ^ n := Nat.mul_le_mul_right _ (Bool.toNat_le _)
    rw [frameSum_succ, Nat.pow_succ]
    omega

theorem frameWord_toNat (b : Nat → Bool) {n : Nat} (hn : n ≤ accWidth) : (frameWord b n).toNat = frameSum b n :=
  Nat.mod_eq_of_lt (lt_of_lt_of_le (frameSum_lt b n) (Nat.pow_le_pow_right (by decide) hn))

theorem frameWord_succ_of_false {b : Nat → Bool} {n : Nat} (hb : b n = false) :
    frameWord b (n + 1) = frameWord b n := by
  simp [frameWord, frameSum_succ, hb]

/-- Setting bit `n` adds `2 ^ n`: all bits of the sum so far are below it. -/
theorem frameWord_succ_of_true {b : Nat → Bool} {n : Nat} (hb : b n = true) (hn : n < accWidth) :
    frameWord b (n + 1) = setBit (frameWord b n) n := by
  have hbit : (1#32 <<< n).toNat = 2 ^ n := by
    rw [BitVec.toNat_shiftLeft, BitVec.toNat_ofNat, Nat.one_mod_eq_one.mpr (by decide), Nat.one_shiftLeft]
    exact Nat.mod_eq_of_lt (Nat.pow_lt_pow_right (by decide) hn)
  have hor : frameSum b n ||| 2 ^ n = frameSum b n + 2 ^ n := by
    have h := Nat.two_pow_add_eq_or_of_lt (frameSum_lt b n) 1
    rw [Nat.mul_one] at h
    rw [Nat.or_comm, ← h, Nat.add_comm]
  apply BitVec.eq_of_toNat_eq
  rw [setBit, BitVec.toNat_or, frameWord_toNat b hn, frameWord_toNat b hn.le, hbit, hor, frameSum_succ, hb]
  simp

/-! ### The frame in the state -/

namespace State

variable {s : State}

/-- `s` with the first `n` bits of `b` assembled and the last mark's width left in the timer. -/
def withFrame (s : State) (width : Nat) (b : Nat → Bool) (n : Nat) : State :=
  ((s.writeTickCount width).writeFrameAccumulator (frameWord b n)).writeBitIndex n

theorem startAction_withFrame (width : Nat) (b : Nat → Bool) :
    (s.writeTickCount width).startAction = s.withFrame width b 0 := rfl

/-- Below the width an append of bit `n` extends the frame of `n` bits by one, under either overrun policy. -/
theorem appendBit_withFrame (width : Nat) (b : Nat → Bool) {n : Nat} (hn : n < accWidth) :
    (s.withFrame width b n).appendBit (b n) = s.withFrame width b (n + 1) := by
  rw [appendBit_of_lt _ _ hn]
  cases hb : b n with
  | false =>
    rw [appendAt_false, withFrame, withFrame, frameWord_succ_of_false hb]
    rfl
  | true =>
    rw [appendAt_true, withFrame, withFrame, frameWord_succ_of_true hb hn]
    rfl

end State

/-! ### The band of a data pulse -/

/-- The width is in the band of a data pulse that carries bit `b` (30_encoding.md R85), and the timer can count it. -/
def InDataBand (c : Config) (b : Bool) (width : Nat) : Prop :=
  pulseClass c width = (if b then .one else .zero) ∧ width ≤ c.tickMax

theorem inDataBand_of_bounds {c : Config} {b : Bool} {w : Nat} (hc : c.BandsOrdered)
    (hone : b = true → c.dataOneThreshold < w ∧ w ≤ c.startThreshold)
    (hzero : b = false → w ≤ c.dataOneThreshold) :
    InDataBand c b w := by
  obtain ⟨hbands, hmax⟩ := hc
  cases b with
  | false =>
    have hw := hzero rfl
    exact ⟨pulseClass_eq_zero hw (by omega), by omega⟩
  | true =>
    obtain ⟨hlow, hhigh⟩ := hone rfl
    exact ⟨pulseClass_eq_one hlow hhigh, by omega⟩

theorem State.classify_of_inDataBand (s : State) {b : Bool} {w : Nat} (h : InDataBand s.cfg b w) :
    s.classify w = s.appendBit b := by
  obtain ⟨hclass, -⟩ := h
  cases b <;> simp [classify, hclass]

theorem State.classify_of_start (s : State) {w : Nat} (h : s.cfg.startThreshold < w) :
    s.classify w = s.startAction := by
  simp [classify, pulseClass_eq_start h]

end Sys2Proof.Machine
end

section
/-! SUPPORT. The assembly of a frame word from a start pulse and its data pulses (spec/30_encoding.md R74). -/

namespace Sys2Proof.Machine

/-- A start pulse begins an empty frame, whatever accumulator and index held. -/
theorem runOps_startPulse {s : State} (hw : s.decoderState = .waitingForMark) {width : Nat}
    (hstart : s.cfg.startThreshold < width) (hmax : width ≤ s.cfg.tickMax) (b : Nat → Bool) :
    runOps (Pseudo.mark width) s = .next (s.withFrame width b 0) := by
  have hclass : (s.writeTickCount width).classify width = s.withFrame width b 0 :=
    ((s.writeTickCount width).classify_of_start hstart).trans (State.startAction_withFrame width b)
  rw [runOps_mark hw hmax, hclass]

/-- A space and a data pulse extend a frame of fewer than 32 bits by one bit. -/
theorem runOps_dataPulse {s : State} (hw : s.decoderState = .waitingForMark) {b : Nat → Bool} {n width : Nat}
    (hn : n < accWidth) (hband : InDataBand s.cfg (b n) width) (space lastWidth : Nat) :
    runOps (Pseudo.space space ++ Pseudo.mark width) (s.withFrame lastWidth b n) =
      .next (s.withFrame width b (n + 1)) := by
  have hwaiting : (s.withFrame lastWidth b n).decoderState = .waitingForMark := hw
  have hclass : (s.withFrame width b n).classify width = s.withFrame width b (n + 1) :=
    ((s.withFrame width b n).classify_of_inDataBand hband).trans (State.appendBit_withFrame width b hn)
  rw [runOps_append (runOps_space hwaiting space), runOps_mark hwaiting hband.2]
  exact congrArg Host.Outcome.next hclass

/-- `n` data pulses, each after its space, assemble the first `n` bits of an empty frame. -/
theorem runOps_dataPulses {s : State} (hw : s.decoderState = .waitingForMark) {b : Nat → Bool} {width : Nat → Nat}
    (space : Nat → Nat) (startWidth : Nat) {n : Nat} (hn : n ≤ accWidth)
    (hband : ∀ k, k < n → InDataBand s.cfg (b k) (width k)) :
    ∃ lastWidth, runOps ((List.range n).flatMap (fun k => Pseudo.space (space k) ++ Pseudo.mark (width k)))
      (s.withFrame startWidth b 0) = .next (s.withFrame lastWidth b n) := by
  induction n with
  | zero => exact ⟨startWidth, rfl⟩
  | succ n ih =>
    obtain ⟨lastWidth, hrun⟩ := ih (by omega) (fun k hk => hband k (by omega))
    refine ⟨width n, ?_⟩
    rw [List.range_succ, List.flatMap_append, runOps_append hrun, List.flatMap_singleton]
    exact runOps_dataPulse hw hn (hband n (by omega)) (space n) lastWidth

/-- Settles O52, by induction on the data pulses: after a start pulse and `n` of them the state is `s` with the first
`n` bits assembled, and the 32 bits are a number below `2 ^ 32`, which the accumulator holds as it is. -/
theorem frameIsAssembledLeastSignificantFirst : Obligations.FrameIsAssembledLeastSignificantFirst := by
  intro s b startWidth width space hcfg hw hstart hmax hone hzero
  obtain ⟨hbands, -⟩ := hcfg
  have hband : ∀ k, k < accWidth → InDataBand s.cfg (b k) (width k) := fun k hk =>
    inDataBand_of_bounds hbands (hone k hk) (hzero k hk)
  obtain ⟨lastWidth, hrun⟩ := runOps_dataPulses hw space startWidth le_rfl hband
  have hframe := (runOps_append (runOps_startPulse hw hstart hmax b) _).trans hrun
  have hmainLoop : SameMainLoopPart s (s.withFrame lastWidth b accWidth) := ⟨rfl, rfl, rfl⟩
  have houtside : SameOutside s (s.withFrame lastWidth b accWidth) := ⟨rfl, rfl, rfl, rfl⟩
  exact ⟨_, hframe, frameWord_toNat b le_rfl, rfl, hw, rfl, hmainLoop, houtside⟩

end Sys2Proof.Machine
end

section
/-! SUPPORT. What each operation may write, said once: the main-loop operations, the frame registers
(spec/10_state.md R24, R25) and the decoder's state (R21) after each event-level operation. -/

namespace Sys2Proof.Machine

/-! ### The main-loop operations -/

namespace State

variable (s : State)

/-- TAKE writes the flag and the actuator at most. -/
theorem take_writes : ∃ f a, s.take = { s with signalCapturedFlag := f, actuator := a } := by
  rcases s.take_cases with ⟨-, h⟩ | ⟨-, -, h⟩ | ⟨-, -, h⟩
  · exact ⟨s.signalCapturedFlag, s.actuator, h⟩
  · exact ⟨s.signalCapturedFlag, s.actuator, h⟩
  · obtain ⟨a, hdispatch⟩ := s.clearCaptured.dispatch_writes s.frameAccumulator false
    exact ⟨false, a, h.trans hdispatch⟩

/-- BTN_SAMPLE writes the debouncer and the actuator at most. -/
theorem btnSample_writes (l : Level) :
    ∃ a d n, s.btnSample l = { s with actuator := a, debState := d, debCount := n } := by
  rcases s.btnSample_cases l with ⟨-, -, h⟩ | ⟨-, -, h⟩ | ⟨-, -, h⟩ | ⟨-, -, -, h⟩ | ⟨-, -, -, h⟩
  · exact ⟨_, _, _, h⟩
  · exact ⟨_, _, _, h⟩
  · exact ⟨_, _, _, h⟩
  · exact ⟨_, _, _, h⟩
  · obtain ⟨a, hpress⟩ := ((s.writeDebCount 0).writeDebState .idle).press_writes
    exact ⟨a, .idle, 0, h.trans hpress⟩

end State

/-- A main-loop operation writes the flag, the actuator and the debouncer at most (60_exceptions.md R200). -/
theorem exec_mainLoop_writes {i : Instr} {s t : State} (hi : i.context = .mainLoop) (h : exec i s = .next t) :
    ∃ f a d n, t = { s with signalCapturedFlag := f, actuator := a, debState := d, debCount := n } := by
  cases i with
  | take =>
    obtain ⟨f, a, hwrites⟩ := s.take_writes
    exact ⟨f, a, s.debState, s.debCount, (Host.Outcome.next.inj h).symm.trans hwrites⟩
  | press =>
    obtain ⟨a, hwrites⟩ := s.press_writes
    exact ⟨s.signalCapturedFlag, a, s.debState, s.debCount, (Host.Outcome.next.inj h).symm.trans hwrites⟩
  | btnSample l =>
    obtain ⟨a, d, n, hwrites⟩ := s.btnSample_writes l
    exact ⟨s.signalCapturedFlag, a, d, n, (Host.Outcome.next.inj h).symm.trans hwrites⟩
  | nop | rise | fall | tick | timeout | reset | cycle pins => cases hi

/-! ### The frame registers -/

/-- Accumulator and index are the same in both states. -/
def SameFrame (s t : State) : Prop := t.frameAccumulator = s.frameAccumulator ∧ t.bitIndex = s.bitIndex

theorem State.sameFrame_rise (s : State) : SameFrame s s.rise := by
  rcases s.rise_cases with ⟨-, h⟩ | ⟨-, h⟩ <;> rw [h] <;> exact ⟨rfl, rfl⟩

theorem State.sameFrame_tick (s : State) : SameFrame s s.tick := by
  rcases s.tick_cases with ⟨-, h⟩ | ⟨-, -, h⟩ | ⟨-, -, h⟩ <;> rw [h] <;> exact ⟨rfl, rfl⟩

theorem sameFrame_of_mainLoop {i : Instr} {s t : State} (hi : i.context = .mainLoop) (h : exec i s = .next t) :
    SameFrame s t := by
  obtain ⟨f, a, d, n, rfl⟩ := exec_mainLoop_writes hi h
  exact ⟨rfl, rfl⟩

/-- Of the event-level operations only FALL and RESET write the frame registers (10_state.md R34). -/
theorem sameFrame_of_exec {i : Instr} {s t : State} (hfall : i ≠ .fall) (hreset : i ≠ .reset)
    (hcycle : ∀ pins, i ≠ .cycle pins) (h : exec i s = .next t) : SameFrame s t := by
  cases i with
  | nop => exact Host.Outcome.next.inj h ▸ ⟨rfl, rfl⟩
  | rise => exact Host.Outcome.next.inj h ▸ s.sameFrame_rise
  | tick => exact Host.Outcome.next.inj h ▸ s.sameFrame_tick
  | timeout => exact Host.Outcome.next.inj h ▸ ⟨rfl, rfl⟩
  | take | press | btnSample l => exact sameFrame_of_mainLoop rfl h
  | fall => exact absurd rfl hfall
  | reset => exact absurd rfl hreset
  | cycle pins => exact absurd rfl (hcycle pins)

/-! ### The decoder's state -/

namespace State

variable (s : State)

@[simp] theorem rise_decoderState : s.rise.decoderState = .measuringMark := by
  rcases s.rise_cases with ⟨-, h⟩ | ⟨hm, h⟩
  · rw [h]
    rfl
  · rw [h, hm]

@[simp] theorem classify_decoderState (w : Nat) : (s.classify w).decoderState = s.decoderState := by
  obtain ⟨acc, n, h⟩ := s.classify_writes w
  rw [h]
  rfl

@[simp] theorem fall_decoderState : s.fall.decoderState = .waitingForMark := by
  rcases s.fall_cases with ⟨hw, h⟩ | ⟨-, h⟩
  · rw [h, hw]
  · rw [h, classify_decoderState]
    rfl

/-- A tick at `TICK_MAX` leaves the decoder waiting: it overflows, or the timer was stopped (R121). -/
theorem tick_decoderState :
    s.tick.decoderState = if s.cfg.tickMax ≤ s.tickCount then .waitingForMark else s.decoderState := by
  rcases s.tick_cases with ⟨hw, h⟩ | ⟨-, hlt, h⟩ | ⟨-, hmax, h⟩
  · rw [h, hw, ite_self]
  · rw [h, if_neg (Nat.not_le.mpr hlt)]
    rfl
  · rw [h, if_pos hmax]
    rfl

/-- The decoder's state after an event-level operation (40_pulse_decoder.md R113); CYCLE, which composes these, is not
spoken of. -/
def decoderStateAfter : Instr → DecoderState
  | .rise => .measuringMark
  | .fall | .timeout | .reset => .waitingForMark
  | .tick => if s.cfg.tickMax ≤ s.tickCount then .waitingForMark else s.decoderState
  | .nop | .take | .press | .btnSample _ | .cycle _ => s.decoderState

end State

theorem decoderState_of_mainLoop {i : Instr} {s t : State} (hi : i.context = .mainLoop) (h : exec i s = .next t) :
    t.decoderState = s.decoderState := by
  obtain ⟨f, a, d, n, rfl⟩ := exec_mainLoop_writes hi h
  rfl

theorem decoderState_of_exec {i : Instr} {s t : State} (hcycle : ∀ pins, i ≠ .cycle pins) (h : exec i s = .next t) :
    t.decoderState = s.decoderStateAfter i := by
  cases i with
  | nop => exact Host.Outcome.next.inj h ▸ rfl
  | rise => exact Host.Outcome.next.inj h ▸ s.rise_decoderState
  | fall => exact Host.Outcome.next.inj h ▸ s.fall_decoderState
  | tick => exact Host.Outcome.next.inj h ▸ s.tick_decoderState
  | timeout => exact Host.Outcome.next.inj h ▸ s.timeoutAction_decoderState
  | reset => exact Host.Outcome.next.inj h ▸ rfl
  | take | press | btnSample l => exact decoderState_of_mainLoop rfl h
  | cycle pins => exact absurd rfl (hcycle pins)

end Sys2Proof.Machine
end

section
/-! SUPPORT. What a FALL does to the frame, by the band of the pulse it ends (spec/40_pulse_decoder.md R103 to R107),
and which operation can bring a frame register to 0 (R105). -/

namespace Sys2Proof.Machine

/-! ### A fall by the band of its pulse -/

theorem pulseClass_eq_start_iff {c : Config} {w : Nat} : pulseClass c w = .start ↔ c.startThreshold < w := by
  refine ⟨fun h => ?_, pulseClass_eq_start⟩
  by_contra hle
  by_cases hone : c.dataOneThreshold < w
  · cases h.symm.trans (pulseClass_eq_one hone (Nat.not_lt.mp hle))
  · cases h.symm.trans (pulseClass_eq_zero (Nat.not_lt.mp hone) (Nat.not_lt.mp hle))

namespace State

variable {s : State}

theorem fall_of_measuring (hm : s.decoderState = .measuringMark) :
    s.fall = (s.writeDecoderState .waitingForMark).classify s.tickCount := by
  simp [fall, hm, pulseWidth]

/-- A FALL that ends a start pulse (R105). -/
theorem fall_of_startPulse (hm : s.decoderState = .measuringMark) (hstart : s.cfg.startThreshold < s.tickCount) :
    s.fall = (s.writeDecoderState .waitingForMark).startAction :=
  (fall_of_measuring hm).trans ((s.writeDecoderState .waitingForMark).classify_of_start hstart)

/-- A FALL that ends a data pulse (R106, R107, R109). -/
theorem fall_of_dataPulse (b : Bool) (hm : s.decoderState = .measuringMark)
    (hclass : pulseClass s.cfg s.tickCount = if b then .one else .zero) :
    s.fall = (s.writeDecoderState .waitingForMark).appendBit b := by
  rw [fall_of_measuring hm]
  cases b <;> simp [classify, hclass]

/-- A FALL that ends a data pulse with room in the frame appends at the index (R106, R107). -/
theorem fall_of_dataPulse_of_lt (b : Bool) (hm : s.decoderState = .measuringMark)
    (hclass : pulseClass s.cfg s.tickCount = if b then .one else .zero) (hlt : s.bitIndex < accWidth) :
    s.fall = (s.writeDecoderState .waitingForMark).appendAt s.bitIndex b :=
  (fall_of_dataPulse b hm hclass).trans (appendBit_of_lt _ b hlt)

end State

/-! ### Clearing a frame register -/

/-- The accumulator or the index goes from another value to 0. -/
def FrameCleared (s t : State) : Prop :=
  (s.frameAccumulator ≠ 0 ∧ t.frameAccumulator = 0) ∨ (s.bitIndex ≠ 0 ∧ t.bitIndex = 0)

theorem SameFrame.not_frameCleared {s t : State} (h : SameFrame s t) : ¬ FrameCleared s t := by
  obtain ⟨hacc, hindex⟩ := h
  rintro (⟨hne, hzero⟩ | ⟨hne, hzero⟩)
  · exact hne (hacc.symm.trans hzero)
  · exact hne (hindex.symm.trans hzero)

theorem setBit_ne_zero {acc : FrameWord} (h : acc ≠ 0) (k : Nat) : setBit acc k ≠ 0 :=
  fun hzero => h (BitVec.or_eq_zero_iff.mp hzero).1

namespace State

variable {s : State}

/-- An append sets bits only and advances the index. -/
theorem not_frameCleared_appendAt (k : Nat) (b : Bool) : ¬ FrameCleared s (s.appendAt k b) := by
  rintro (⟨hne, hzero⟩ | ⟨-, hzero⟩)
  · cases b with
    | false => exact hne hzero
    | true => exact setBit_ne_zero hne k hzero
  · cases b <;> exact Nat.succ_ne_zero _ hzero

theorem not_frameCleared_appendBit (b : Bool) : ¬ FrameCleared s (s.appendBit b) := by
  rcases s.appendBit_cases b with h | ⟨k, -, h⟩
  · rw [h]
    exact SameFrame.not_frameCleared ⟨rfl, rfl⟩
  · rw [h]
    exact not_frameCleared_appendAt k b

/-- A FALL clears a frame register only at the end of a start pulse (R105). -/
theorem startPulse_of_frameCleared_fall (h : FrameCleared s s.fall) :
    s.decoderState = .measuringMark ∧ s.cfg.startThreshold < s.tickCount := by
  rcases s.fall_cases with ⟨-, hfall⟩ | ⟨hm, hfall⟩
  · rw [hfall] at h
    exact absurd h (SameFrame.not_frameCleared ⟨rfl, rfl⟩)
  · rw [hfall] at h
    rcases (s.writeDecoderState .waitingForMark).classify_cases s.tickCount with
      ⟨hclass, -⟩ | ⟨-, happend⟩ | ⟨-, happend⟩
    · exact ⟨hm, pulseClass_eq_start_iff.mp hclass⟩
    · rw [happend] at h
      exact absurd h (not_frameCleared_appendBit (s := s.writeDecoderState .waitingForMark) true)
    · rw [happend] at h
      exact absurd h (not_frameCleared_appendBit (s := s.writeDecoderState .waitingForMark) false)

end State

end Sys2Proof.Machine
end

section
/-! SUPPORT. The statements about the pulse decoder (spec/40_pulse_decoder.md). -/

namespace Sys2Proof.Machine

/-- Settles O13: RESET apart, only FALL writes a frame register at the event level, and a FALL that ends a data pulse
clears neither. -/
theorem startPulseResetsFrame : Obligations.StartPulseResetsFrame := by
  refine ⟨fun s hm hstart => congrArg Host.Outcome.next (State.fall_of_startPulse hm hstart), ?_⟩
  intro i s t hreset hcycle h hcleared
  by_cases hfall : i = .fall
  · subst hfall
    cases h
    exact ⟨rfl, State.startPulse_of_frameCleared_fall hcleared⟩
  · exact absurd hcleared (sameFrame_of_exec hfall hreset hcycle h).not_frameCleared

/-- Settles O41: `decoderStateAfter` gives the state after each operation; only TICK's depends on more than the state
before it. -/
theorem decoderStateTransitions : Obligations.DecoderStateTransitions := by
  intro i s t hcycle h
  rw [decoderState_of_exec hcycle h]
  refine ⟨fun hw => ?_, fun hm => ?_⟩
  · cases i <;> simp [State.decoderStateAfter, hw]
  · cases i <;> simp [State.decoderStateAfter, hm]

/-- Settles O11. -/
theorem riseStartsMeasurement : Obligations.RiseStartsMeasurement :=
  ⟨rfl, fun _ hw => congrArg Host.Outcome.next (State.rise_of_waiting hw)⟩

/-- Settles O14: below the width either overrun policy writes at the index itself. -/
theorem onePulseSetsIndexedBit : Obligations.OnePulseSetsIndexedBit := by
  intro s hm hlow hhigh hindex
  have hfall := State.fall_of_dataPulse_of_lt true hm (pulseClass_eq_one hlow hhigh) (Nat.lt_succ_of_le hindex)
  exact ⟨congrArg Host.Outcome.next hfall, fun _ hk => setBit_getLsbD s.frameAccumulator hk⟩

/-- Settles O15: in a well-formed configuration a width of the ZERO band is below the START band too. -/
theorem zeroPulseAdvancesIndex : Obligations.ZeroPulseAdvancesIndex := by
  intro s hcfg hm hlow hindex
  obtain ⟨⟨hbands, -⟩, -⟩ := hcfg
  have hclass := pulseClass_eq_zero hlow (hlow.trans hbands.le)
  exact congrArg Host.Outcome.next (State.fall_of_dataPulse_of_lt false hm hclass (Nat.lt_succ_of_le hindex))

end Sys2Proof.Machine
end


section
/-! SUPPORT. The statement about the Tick Timer (spec/41_tick_timer_timeout.md). -/

namespace Sys2Proof.Machine

/-- A TICK counts while the timer runs below its maximum (R120). -/
theorem State.tick_of_measuring_of_lt {s : State} (hm : s.decoderState = .measuringMark)
    (hlt : s.tickCount < s.cfg.tickMax) : s.tick = s.writeTickCount (s.tickCount + 1) := by
  rcases s.tick_cases with ⟨hw, -⟩ | ⟨-, -, h⟩ | ⟨-, hmax, -⟩
  · cases hw.symm.trans hm
  · exact h
  · exact absurd hlt (Nat.not_lt.mpr hmax)

/-- Settles O17, by the two branches of TICK that do not overflow. -/
theorem tickCountsOnlyWhileRunning : Obligations.TickCountsOnlyWhileRunning :=
  ⟨rfl, fun _ hm hlt => congrArg Host.Outcome.next (State.tick_of_measuring_of_lt hm hlt),
    fun _ hw => congrArg Host.Outcome.next (State.tick_of_waiting hw)⟩

end Sys2Proof.Machine
end

section
/-! SUPPORT. The statement about the Frame Dispatcher (spec/42_frame_dispatcher.md). -/

namespace Sys2Proof.Machine

/-! ### Lookup and Dispatch of a known code -/

theorem lookup_of_eq_codeA {c : Config} {v : FrameWord} (hA : v = c.codeA) : lookup c v = .known .cmdA :=
  if_pos hA

/-- Lookup compares with `codeA` first, so `codeB` is command B where it is not `codeA` too (R138). -/
theorem lookup_of_eq_codeB {c : Config} {v : FrameWord} (hA : v ≠ c.codeA) (hB : v = c.codeB) :
    lookup c v = .known .cmdB :=
  (if_neg hA).trans (if_pos hB)

theorem State.dispatch_known (s : State) {v : FrameWord} {k : KnownCommand} (h : lookup s.cfg v = .known k)
    (m : Bool) : s.dispatch v m = s.writeActuator (pairOf k) := by
  simp [State.dispatch, h]

/-- Settles O22, by what Lookup answers for the value: command A, command B, unrecognized. -/
theorem dispatchMapsCodesToPairs : Obligations.DispatchMapsCodesToPairs := by
  intro s v m
  refine ⟨fun hA => ?_, fun hA hB => ?_, fun hA hB => ?_⟩
  · exact s.dispatch_known (lookup_of_eq_codeA hA) m
  · exact s.dispatch_known (lookup_of_eq_codeB hA hB) m
  · exact s.dispatch_unrecognized (lookup_eq_unrecognized_iff.mpr ⟨hA, hB⟩) m

end Sys2Proof.Machine
end

section
/-! SUPPORT. The statements about the Manual Override's busy-wait (spec/43_manual_override.md R153, R154). -/

namespace Sys2Proof.Machine

namespace State

variable {s : State}

/-! ### A sample inside the busy-wait -/

theorem btnSample_low_of_confirm (hc : s.debState = .confirm) : s.btnSample .low = s.writeDebCount 0 := by
  simp [btnSample, hc, readsPressed]

theorem btnSample_high_of_confirm (hc : s.debState = .confirm) : s.btnSample .high = s.confirmRelease := by
  simp [btnSample, hc, readsPressed]

theorem confirmRelease_of_lt (h : s.debCount + 1 < s.cfg.debounceConfirmations) :
    s.confirmRelease = s.writeDebCount (s.debCount + 1) :=
  if_pos h

/-- The last confirmation leaves the busy-wait and presses (R154). -/
theorem confirmRelease_of_last (h : s.cfg.debounceConfirmations ≤ s.debCount + 1) :
    s.confirmRelease = ((s.writeDebCount 0).writeDebState .idle).press :=
  if_neg (Nat.not_lt.mpr h)

/-! ### PRESS leaves the debouncer unchanged -/

@[simp] theorem press_debState : s.press.debState = s.debState := by
  obtain ⟨a, h⟩ := s.press_writes
  rw [h, writeActuator_debState]

@[simp] theorem press_debCount : s.press.debCount = s.debCount := by
  obtain ⟨a, h⟩ := s.press_writes
  rw [h, writeActuator_debCount]

end State

/-- Settles O26. -/
theorem bounceResetsConfirmation : Obligations.BounceResetsConfirmation :=
  fun _ hc => congrArg Host.Outcome.next (State.btnSample_low_of_confirm hc)

/-- Settles O27: the last sample performs PRESS on the idle debouncer, and PRESS leaves the debouncer as it is. -/
theorem lastConfirmationPresses : Obligations.LastConfirmationPresses := by
  refine ⟨fun s hc hlt => ?_, fun s hc hlast => ?_⟩
  · have hcount := (State.btnSample_high_of_confirm hc).trans (State.confirmRelease_of_lt hlt)
    exact congrArg Host.Outcome.next hcount
  · have hpress := (State.btnSample_high_of_confirm hc).trans (State.confirmRelease_of_last hlast)
    have hexec : exec (.btnSample .high) s = .next ((s.writeDebCount 0).writeDebState .idle).press :=
      congrArg Host.Outcome.next hpress
    exact ⟨hexec, _, hexec, State.press_debState, State.press_debCount⟩

end Sys2Proof.Machine
end

section
/-! SUPPORT. The statement about the output channels (spec/44_actuator_output.md R166, R167): which operations drive
them, and under which guard. -/

namespace Sys2Proof.Machine

/-! ### Driving the channels, or leaving them as they are -/

/-- What the channels carry is read off the same parameters and the same actuator in both states. -/
def SameChannels (s t : State) : Prop := t.cfg = s.cfg ∧ t.actuator = s.actuator

theorem SameChannels.outputs_eq {s t : State} (h : SameChannels s t) : t.outputs = s.outputs := by
  obtain ⟨hcfg, hactuator⟩ := h
  rw [State.outputs, State.outputs, hcfg, hactuator]

/-- From `s` to `t` the channels are left alone, or else they are driven to a legal pair and `guard` holds. -/
def DrivenOnlyIf (guard : Prop) (s t : State) : Prop :=
  SameChannels s t ∨ (LegalActuator t.actuator ∧ guard)

namespace DrivenOnlyIf

variable {p q : Prop} {s t u : State}

theorem mono (hpq : p → q) (h : DrivenOnlyIf p s t) : DrivenOnlyIf q s t :=
  h.imp_right (And.imp_right hpq)

/-- After two moves the channels carry the pair driven last (R167). -/
theorem trans (hst : DrivenOnlyIf p s t) (htu : DrivenOnlyIf q t u) : DrivenOnlyIf (p ∨ q) s u := by
  rcases htu with ⟨hcfg, hactuator⟩ | ⟨hlegal, hq⟩
  · rcases hst with ⟨hcfg', hactuator'⟩ | ⟨hlegal, hp⟩
    · exact .inl ⟨hcfg.trans hcfg', hactuator.trans hactuator'⟩
    · exact .inr ⟨hactuator ▸ hlegal, .inl hp⟩
  · exact .inr ⟨hlegal, .inr hq⟩

/-- A move made only where `b` holds. -/
theorem ite (b : Bool) (h : DrivenOnlyIf p s t) : DrivenOnlyIf (b = true ∧ p) s (if b then t else s) := by
  cases b with
  | false => exact .inl ⟨rfl, rfl⟩
  | true => exact h.mono fun hp => ⟨rfl, hp⟩

theorem of_outputs_ne (h : DrivenOnlyIf p s t) (hne : t.outputs ≠ s.outputs) : LegalActuator t.actuator ∧ p :=
  h.resolve_left fun hsame => hne hsame.outputs_eq

end DrivenOnlyIf

theorem legalActuator_pairOf (k : KnownCommand) : LegalActuator (pairOf k) := by
  cases k with
  | cmdA => exact .inl rfl
  | cmdB => exact .inr rfl

namespace State

variable (s : State)

/-! ### The interrupt side drives nothing (44_actuator_output.md R169) -/

theorem sameChannels_rise : SameChannels s s.rise := by
  rcases s.rise_cases with ⟨-, h⟩ | ⟨-, h⟩ <;> rw [h] <;> exact ⟨rfl, rfl⟩

theorem sameChannels_fall : SameChannels s s.fall := by
  obtain ⟨d, acc, n, h⟩ := s.fall_writes
  rw [h]
  exact ⟨rfl, rfl⟩

theorem sameChannels_tick : SameChannels s s.tick := by
  rcases s.tick_cases with ⟨-, h⟩ | ⟨-, -, h⟩ | ⟨-, -, h⟩ <;> rw [h] <;> exact ⟨rfl, rfl⟩

theorem sameChannels_timeoutAction : SameChannels s s.timeoutAction := ⟨rfl, rfl⟩

theorem sameChannels_interruptSide (pins : Pins) : SameChannels s (s.interruptSide pins) := by
  rcases s.interruptSide_cases pins with
    ⟨-, h⟩ | ⟨-, -, h⟩ | ⟨-, -, -, h⟩ | ⟨-, -, -, h⟩ | ⟨-, -, -, -, h⟩ | ⟨-, -, -, -, h⟩ <;> rw [h]
  · exact s.sameChannels_tick
  · exact s.sameChannels_timeoutAction
  · exact s.sameChannels_rise
  · exact s.sameChannels_fall
  · exact s.sameChannels_tick
  · exact ⟨rfl, rfl⟩

/-! ### The two paths into Dispatch (44_actuator_output.md R167) -/

/-- TAKE finds a hand-off with a recognized code (42_frame_dispatcher.md R136 to R138). -/
def TakesRecognized : Prop :=
  s.debState = .idle ∧ s.signalCapturedFlag = true ∧ lookup s.cfg s.frameAccumulator ≠ .unrecognized

/-- A BTN_SAMPLE at level `l` is the last confirmation, which presses (43_manual_override.md R154). -/
def LastConfirmation (l : Level) : Prop :=
  l = .high ∧ s.debState = .confirm ∧ s.cfg.debounceConfirmations ≤ s.debCount + 1

theorem dispatch_driven (v : FrameWord) (m : Bool) :
    DrivenOnlyIf (lookup s.cfg v ≠ .unrecognized) s (s.dispatch v m) := by
  rcases s.dispatch_cases v m with ⟨k, hknown, h⟩ | ⟨-, h⟩ <;> rw [h]
  · exact .inr ⟨legalActuator_pairOf k, by simp [hknown]⟩
  · exact .inl ⟨rfl, rfl⟩

theorem take_driven : DrivenOnlyIf s.TakesRecognized s s.take := by
  rcases s.take_cases with ⟨-, h⟩ | ⟨-, -, h⟩ | ⟨hidle, hflag, h⟩ <;> rw [h]
  · exact .inl ⟨rfl, rfl⟩
  · exact .inl ⟨rfl, rfl⟩
  · exact (s.clearCaptured.dispatch_driven s.frameAccumulator false).mono fun hknown => ⟨hidle, hflag, hknown⟩

theorem press_driven : DrivenOnlyIf True s s.press :=
  (s.dispatch_driven _ _).mono fun _ => trivial

theorem btnSample_driven (l : Level) : DrivenOnlyIf (s.LastConfirmation l) s (s.btnSample l) := by
  rcases s.btnSample_cases l with ⟨-, -, h⟩ | ⟨-, -, h⟩ | ⟨-, -, h⟩ | ⟨-, -, -, h⟩ | ⟨hconfirm, hhigh, hlast, h⟩ <;>
    rw [h]
  · exact .inl ⟨rfl, rfl⟩
  · exact .inl ⟨rfl, rfl⟩
  · exact .inl ⟨rfl, rfl⟩
  · exact .inl ⟨rfl, rfl⟩
  · exact (press_driven _).mono fun _ => ⟨hhigh, hconfirm, hlast⟩

/-! ### The clock cycle (45_pin_level_cycle.md R177) -/

/-- The main-loop side of a cycle: a TAKE where it is polled, then a PRESS where it is pressed. -/
theorem mainLoopSide_driven (pins : Pins) :
    DrivenOnlyIf ((pins.pollEn = true ∧ s.TakesRecognized) ∨ pins.press = true) s (s.mainLoopSide pins) := by
  have hpoll := s.take_driven.ite pins.pollEn
  have hpress := (press_driven (if pins.pollEn then s.take else s)).ite pins.press
  exact (hpoll.trans hpress).mono (Or.imp_right And.left)

/-- The guard under which a cycle drives the channels. -/
def CycleDrives (pins : Pins) : Prop :=
  pins.rst = true ∨ pins.press = true ∨ (pins.pollEn = true ∧ s.TakesRecognized)

theorem cycle_driven (pins : Pins) : DrivenOnlyIf (s.CycleDrives pins) s (s.cycle pins) := by
  cases hrst : pins.rst with
  | true =>
    rw [s.cycle_of_rst hrst]
    exact .inr ⟨legalActuator_pairOf s.cfg.resetCommand, .inl hrst⟩
  | false =>
    have hinterrupt : DrivenOnlyIf False (s.mainLoopSide pins) (s.cycle pins) := by
      rw [s.cycle_of_not_rst hrst]
      exact .inl ((s.mainLoopSide pins).sameChannels_interruptSide pins)
    refine ((s.mainLoopSide_driven pins).trans hinterrupt).mono ?_
    rintro ((htake | hpress) | hfalse)
    · exact .inr (.inr htake)
    · exact .inr (.inl hpress)
    · exact hfalse.elim

/-- The guard under which an operation drives the channels. -/
def Drives : Instr → Prop
  | .nop | .rise | .fall | .tick | .timeout => False
  | .take => s.TakesRecognized
  | .press | .reset => True
  | .btnSample l => s.LastConfirmation l
  | .cycle pins => s.CycleDrives pins

end State

theorem exec_driven {i : Instr} {s t : State} (h : exec i s = .next t) : DrivenOnlyIf (s.Drives i) s t := by
  cases i <;> cases h
  case nop => exact .inl ⟨rfl, rfl⟩
  case rise => exact .inl s.sameChannels_rise
  case fall => exact .inl s.sameChannels_fall
  case tick => exact .inl s.sameChannels_tick
  case timeout => exact .inl s.sameChannels_timeoutAction
  case take => exact s.take_driven
  case press => exact s.press_driven
  case reset => exact .inr ⟨legalActuator_pairOf s.cfg.resetCommand, trivial⟩
  case btnSample l => exact s.btnSample_driven l
  case cycle pins => exact s.cycle_driven pins

/-- Settles O44: the channels are functions of the actuator, and what changes them drives the actuator, so the guard of
the operation holds. -/
theorem outputsFollowDispatchedCommand : Obligations.OutputsFollowDispatchedCommand := by
  refine ⟨fun s => ⟨fun h => ?_, fun h => ?_, fun h => ?_, fun h => ?_⟩, fun i s t h hne => ?_⟩
  · simp [State.outputs, h, Indicator.toBits]
  · simp [State.outputs, h, Indicator.toBits]
  · simp [State.outputs, h, Position.toBits, setpointOf]
  · simp [State.outputs, h, Position.toBits, setpointOf]
  · obtain ⟨hlegal, hdrives⟩ := (exec_driven h).of_outputs_ne hne
    refine ⟨hlegal, ?_⟩
    cases i with
    | nop | rise | fall | tick | timeout => exact hdrives.elim
    | reset => exact .inl rfl
    | press => exact .inr (.inl rfl)
    | take => exact .inr (.inr (.inl ⟨rfl, hdrives⟩))
    | btnSample l =>
      obtain ⟨rfl, hlast⟩ := hdrives
      exact .inr (.inr (.inr (.inl ⟨rfl, hlast⟩)))
    | cycle pins => exact .inr (.inr (.inr (.inr ⟨pins, rfl, hdrives⟩)))

end Sys2Proof.Machine
end

section
/-! SUPPORT. The statement about anomalies: no operation raises anything (spec/60_exceptions.md R190). -/

namespace Sys2Proof.Machine

/-- Every operation is total (00_scope.md R14): its next state is the one its own meaning computes. -/
theorem exec_total (i : Instr) (s : State) : ∃ t, exec i s = .next t :=
  match i with
  | .nop => ⟨s, rfl⟩
  | .rise => ⟨s.rise, rfl⟩
  | .fall => ⟨s.fall, rfl⟩
  | .tick => ⟨s.tick, rfl⟩
  | .timeout => ⟨s.timeoutAction, rfl⟩
  | .take => ⟨s.take, rfl⟩
  | .press => ⟨s.press, rfl⟩
  | .reset => ⟨s.resetAll, rfl⟩
  | .btnSample l => ⟨s.btnSample l, rfl⟩
  | .cycle pins => ⟨s.cycle pins, rfl⟩

/-- There is no reason to fault: the type has no constructor. -/
theorem fault_elim (f : Fault) : False := nomatch f

/-- Settles O9, from the totality of each operation and the emptiness of the type of faults. -/
theorem everyOperationIsTotal : Obligations.EveryOperationIsTotal := ⟨exec_total, fault_elim⟩

end Sys2Proof.Machine
end

section
/-! SUPPORT. The statements about the stimulus word (spec/30_encoding.md R80 to R83): encoder and decoder invert each
other, the rows of the opcode table do not overlap, and reserved words are refused. -/

namespace Sys2Proof

open Machine

/-! ### Levels and the bits of a format P word -/

@[simp] theorem Level.ofBit_toBit (l : Level) : Level.ofBit l.toBit = l := by cases l <;> rfl

@[simp] theorem Level.toBit_ofBit (b : Bool) : (Level.ofBit b).toBit = b := by cases b <;> rfl

/-- `1 r x p q t 0 i` from bit 7 down (30_encoding.md R82). -/
theorem encodePins_getLsbD (p : Pins) (k : Nat) :
    (encodePins p).getLsbD k =
      [p.irIn.toBit, false, p.tickEn, p.pollEn, p.press, p.timeoutExt, p.rst, true].getD k false := by
  change (1#1 ++ BitVec.ofBool p.rst ++ BitVec.ofBool p.timeoutExt ++ BitVec.ofBool p.press
    ++ BitVec.ofBool p.pollEn ++ BitVec.ofBool p.tickEn ++ 0#1 ++ BitVec.ofBool p.irIn.toBit).getLsbD k = _
  simp only [BitVec.getLsbD_append]
  match k with
  | 0 | 1 | 2 | 3 | 4 | 5 | 6 | 7 => simp
  | k + 8 => simp

/-! ### The decoder by format -/

theorem decode_of_formatP {w : StimulusWord} (h : w.getLsbD 7 = true) : decode w = decodeFormatP w := if_pos h

theorem decode_of_formatE {w : StimulusWord} (h : w.getLsbD 7 = false) : decode w = decodeFormatE w := by
  simp only [decode, h, Bool.false_eq_true, if_false]

/-- `0x0A` is the first reserved word of format E (R83). -/
theorem decodeFormatE_of_ge {w : StimulusWord} (h : 0x0A ≤ w.toNat) : decodeFormatE w = .reservedFormatE w := by
  unfold decodeFormatE
  split
  case h_11 => rfl
  all_goals omega

theorem decodeFormatP_reserved {w : StimulusWord} (h : w.getLsbD 1 = true) : decodeFormatP w = .reservedFormatP w :=
  if_pos h

/-- The pins a format P word spells (R82). -/
def pinsOfWord (w : StimulusWord) : Pins where
  rst := w.getLsbD 6
  timeoutExt := w.getLsbD 5
  press := w.getLsbD 4
  pollEn := w.getLsbD 3
  tickEn := w.getLsbD 2
  irIn := Level.ofBit (w.getLsbD 0)

theorem decodeFormatP_operation {w : StimulusWord} (h : w.getLsbD 1 = false) :
    decodeFormatP w = .operation (.cycle (pinsOfWord w)) := by
  simp only [decodeFormatP, h, Bool.false_eq_true, if_false]
  rfl

/-! ### Decoding what was encoded -/

theorem pinsOfWord_encodePins (p : Pins) : pinsOfWord (encodePins p) = p := by
  simp only [pinsOfWord, encodePins_getLsbD]
  simp

theorem decode_encodePins (p : Pins) : decode (encodePins p) = .operation (.cycle p) := by
  rw [decode_of_formatP (encodePins_getLsbD p 7), decodeFormatP_operation (encodePins_getLsbD p 1),
    pinsOfWord_encodePins]

/-- Settles O3: the fixed words evaluate, and the decoder reads each pin from the bit the encoder wrote it to. -/
theorem decodeOfEncodeIsIdentity : Obligations.DecodeOfEncodeIsIdentity := by
  intro i
  cases i with
  | nop | rise | fall | tick | timeout | take | press | reset => rfl
  | btnSample l => cases l <;> rfl
  | cycle pins => exact decode_encodePins pins

/-! ### Encoding what was decoded -/

theorem encode_of_decodeFormatE {w : StimulusWord} {i : Instr} (h : decodeFormatE w = .operation i) : encode i = w := by
  by_cases hw : w.toNat < 0x0A
  · have hword : w = BitVec.ofNat 8 w.toNat := BitVec.eq_of_toNat_eq (by simp)
    generalize w.toNat = n at hw hword
    subst hword
    interval_cases n <;> cases h <;> rfl
  · rw [decodeFormatE_of_ge (Nat.not_lt.mp hw)] at h
    cases h

/-- Bits 7 and 1 are fixed by the format, and each other bit is a pin. -/
theorem encodePins_pinsOfWord {w : StimulusWord} (h7 : w.getLsbD 7 = true) (h1 : w.getLsbD 1 = false) :
    encodePins (pinsOfWord w) = w := by
  apply BitVec.eq_of_getLsbD_eq
  intro k hk
  rw [encodePins_getLsbD]
  interval_cases k <;> simp only [pinsOfWord, Level.toBit_ofBit, h7, h1] <;> rfl

/-- Settles O4: a word of format E that is not reserved is one of ten, and a word of format P is its own pins. -/
theorem encodeOfDecodeIsIdentity : Obligations.EncodeOfDecodeIsIdentity := by
  intro w i h
  cases h7 : w.getLsbD 7 with
  | false => exact encode_of_decodeFormatE (decode_of_formatE h7 ▸ h)
  | true =>
    rw [decode_of_formatP h7] at h
    cases h1 : w.getLsbD 1 with
    | true =>
      rw [decodeFormatP_reserved h1] at h
      cases h
    | false =>
      rw [decodeFormatP_operation h1] at h
      cases h
      exact encodePins_pinsOfWord h7 h1

/-! ### The rows of the opcode table -/

/-- An operation's own word matches its row. -/
theorem row_matchesWord_encode (i : Instr) : i.row.matchesWord (encode i) = true := by
  cases i with
  | nop | rise | fall | tick | timeout | take | press | reset => rfl
  | btnSample l => exact Laws.MatchesRow.btnSample l
  | cycle pins => exact Laws.MatchesRow.cycle pins

theorem matchesWord_iff {row : OpcodeRow} {w : StimulusWord} :
    row.matchesWord w = true ↔ w &&& row.mask = row.pattern := by
  simp [OpcodeRow.matchesWord]

/-- A full mask leaves one word. -/
theorem eq_pattern_of_matchesWord {row : OpcodeRow} {w : StimulusWord} (hmask : row.mask = 0xFF#8)
    (h : row.matchesWord w = true) : w = row.pattern := by
  have hand := matchesWord_iff.mp h
  have hones : row.mask = BitVec.allOnes 8 := hmask
  rwa [hones, BitVec.and_allOnes] at hand

/-- The mask of BTN_SAMPLE leaves bit 0 free (R81). -/
theorem eq_encode_of_matchesWord_btnSample {w : StimulusWord} {l : Level}
    (h : (Instr.btnSample l).row.matchesWord w = true) : w = encode (.btnSample (Level.ofBit (w.getLsbD 0))) := by
  have hall : ∀ v : StimulusWord, v &&& 0xFE#8 = 0x08#8 → v = encode (.btnSample (Level.ofBit (v.getLsbD 0))) := by
    decide
  exact hall w (matchesWord_iff.mp h)

/-- The mask of CYCLE fixes bits 7 and 1 (R82). -/
theorem decode_of_matchesWord_cycle {w : StimulusWord} {p : Pins} (h : (Instr.cycle p).row.matchesWord w = true) :
    decode w = .operation (.cycle (pinsOfWord w)) := by
  have hand : w &&& 0x82#8 = 0x80#8 := matchesWord_iff.mp h
  have h7 := congrArg (BitVec.getLsbD · 7) hand
  have h1 := congrArg (BitVec.getLsbD · 1) hand
  simp only [BitVec.getLsbD_and] at h7 h1
  rw [decode_of_formatP (by simpa using h7), decodeFormatP_operation (by simpa using h1)]

/-- A word that matches an operation's row spells an operation of that row. -/
theorem decode_of_matchesWord {i : Instr} {w : StimulusWord} (h : i.row.matchesWord w = true) :
    ∃ j, decode w = .operation j ∧ j.row = i.row := by
  cases i with
  | nop | rise | fall | tick | timeout | take | press | reset =>
    obtain rfl := eq_pattern_of_matchesWord rfl h
    exact ⟨_, rfl, rfl⟩
  | btnSample l =>
    rw [eq_encode_of_matchesWord_btnSample h]
    exact ⟨_, decodeOfEncodeIsIdentity _, rfl⟩
  | cycle pins => exact ⟨_, decode_of_matchesWord_cycle h, rfl⟩

theorem exists_row_of_mem_opcodeRows {row : OpcodeRow} (h : row ∈ opcodeRows) : ∃ i : Instr, row = i.row := by
  simp only [opcodeRows, List.mem_cons, List.not_mem_nil, or_false] at h
  rcases h with h | h | h | h | h | h | h | h | h | h <;> exact ⟨_, h⟩

/-- The word of operation `i` matches the row of `i` and no other row of the table. -/
theorem matchesWord_iff_eq_row {w : StimulusWord} {i : Instr} (hw : decode w = .operation i) {row : OpcodeRow}
    (hrow : row ∈ opcodeRows) : row.matchesWord w = true ↔ row = i.row := by
  obtain ⟨j, rfl⟩ := exists_row_of_mem_opcodeRows hrow
  constructor
  · intro h
    obtain ⟨k, hk, hrows⟩ := decode_of_matchesWord h
    cases hw.symm.trans hk
    exact hrows.symm
  · intro h
    rw [h, ← encodeOfDecodeIsIdentity w i hw]
    exact row_matchesWord_encode i

theorem opcodeRows_filter_eq_row (i : Instr) : opcodeRows.filter (· = i.row) = [i.row] := by
  cases i <;> rfl

/-- Settles O5: matching a row and spelling an operation of it are the same, and the ten rows differ. -/
theorem exactlyOneOpcodeRowMatches : Obligations.ExactlyOneOpcodeRowMatches := by
  refine fun w => ⟨fun i hw => ?_, fun hw => ?_⟩
  · rw [← opcodeRows_filter_eq_row i]
    apply List.filter_congr
    intro row hrow
    rw [Bool.eq_iff_iff, matchesWord_iff_eq_row hw hrow, decide_eq_true_iff]
  · rw [List.filter_eq_nil_iff]
    intro row hrow hmatch
    obtain ⟨i, rfl⟩ := exists_row_of_mem_opcodeRows hrow
    obtain ⟨j, hj, -⟩ := decode_of_matchesWord hmatch
    simp [spellsOperation, hj] at hw

/-- Settles O6: the words evaluate. -/
theorem specWordsDecodeAsWritten : Obligations.SpecWordsDecodeAsWritten :=
  ⟨rfl, rfl, rfl, rfl, rfl, rfl, rfl, rfl⟩

end Sys2Proof
end

section
/-! SUPPORT. The statements about one step and its stimulus word (spec/30_encoding.md R80, R83; log 1, log 2, log 8). -/

namespace Sys2Proof.Machine

section

variable {s : State} {w : StimulusWord} {ws : List StimulusWord}

theorem step_of_nil (hs : s.stimuli = []) : step s = exec .nop s := by
  simp [step, s.fetch_nil hs]

theorem step_of_operation {i : Instr} (hs : s.stimuli = w :: ws) (hw : decode w = .operation i) :
    step s = exec i (s.writeStimuli ws) := by
  simp [step, s.fetch_cons hs, hw]

theorem step_of_reservedFormatE (hs : s.stimuli = w :: ws) (hw : decode w = .reservedFormatE w) :
    step s = .refused (.reservedStimulusWord w) := by
  simp [step, s.fetch_cons hs, hw]

theorem step_of_reservedFormatP (hs : s.stimuli = w :: ws) (hw : decode w = .reservedFormatP w) :
    step s = .refused (.reservedStimulusWord w) := by
  simp [step, s.fetch_cons hs, hw]

end

/-- A step that answers a next state performed an operation, on the state with the word taken off the trace. -/
theorem exec_of_step {s t : State} (h : step s = .next t) : ∃ i, exec i (s.writeStimuli s.stimuli.tail) = .next t := by
  cases hs : s.stimuli with
  | nil =>
    refine ⟨.nop, ?_⟩
    rw [← h, step_of_nil hs, List.tail_nil, ← hs]
    rfl
  | cons w ws =>
    cases hw : decode w with
    | operation i => exact ⟨i, step_of_operation hs hw ▸ h⟩
    | reservedFormatE r => simp [step, s.fetch_cons hs, hw] at h
    | reservedFormatP r => simp [step, s.fetch_cons hs, hw] at h

/-- Settles O2: bit 7 selects the format, and each format refuses its own reserved words. -/
theorem reservedWordsAreRefused : Obligations.ReservedWordsAreRefused := by
  rintro s w ws hs (⟨hlow, hhigh⟩ | ⟨h7, h1⟩)
  · have hlow' : 0x0A ≤ w.toNat := hlow
    have hhigh' : w.toNat ≤ 0x7F := hhigh
    have h7 : w.getLsbD 7 = false := Nat.testBit_lt_two_pow (by omega)
    exact step_of_reservedFormatE hs ((decode_of_formatE h7).trans (decodeFormatE_of_ge hlow'))
  · exact step_of_reservedFormatP hs ((decode_of_formatP h7).trans (decodeFormatP_reserved h1))

/-- Settles O1, by what the next stimulus word is. -/
theorem stepPerformsDecodedOperation : Obligations.StepPerformsDecodedOperation :=
  ⟨fun _ _ _ _ hs hw => step_of_operation hs hw, fun _ hs => step_of_nil hs⟩

end Sys2Proof.Machine
end

section
/-! SUPPORT. The invariants of a reachable state (spec/10_state.md R32, R33): one rule per register write, one per
operation, and the statements that reset establishes them and that every step keeps them. -/

namespace Sys2Proof

open Machine

namespace Inv

variable {s : State}

/-! ### One rule per register write: what the value written has to satisfy -/

theorem writeDecoderState (h : Inv s) (v : DecoderState) : Inv (s.writeDecoderState v) := { h with }

theorem writeTickCount (h : Inv s) {v : Nat} (hv : v ≤ s.cfg.tickMax) : Inv (s.writeTickCount v) :=
  { h with tickCount := hv }

theorem writeFrameAccumulator (h : Inv s) (v : FrameWord) : Inv (s.writeFrameAccumulator v) := { h with }

theorem writeBitIndex (h : Inv s) {v : Nat} (hv : s.cfg.overrunPolicy = .ignore → v ≤ accWidth) :
    Inv (s.writeBitIndex v) :=
  { h with bitIndex := hv }

theorem raiseCaptured (h : Inv s) : Inv s.raiseCaptured := { h with }

theorem clearCaptured (h : Inv s) : Inv s.clearCaptured := { h with }

theorem writeActuator (h : Inv s) {v : Actuator} (hv : LegalActuator v) : Inv (s.writeActuator v) :=
  { h with actuator := hv }

theorem writeDebouncer (h : Inv s) {d : DebState} {n : Nat} (hn : n < s.cfg.debounceConfirmations)
    (hidle : d = .idle → n = 0) : Inv ((s.writeDebState d).writeDebCount n) :=
  { h with debCount := hn, idleCount := hidle }

theorem writeIrPrev (h : Inv s) (v : Level) : Inv (s.writeIrPrev v) := { h with }

theorem writeStimuli (h : Inv s) (v : List StimulusWord) : Inv (s.writeStimuli v) := { h with }

theorem advanceDraws (h : Inv s) : Inv s.advanceDraws := { h with }

/-- A confirmation count of 0 is below any number asked for (log 7). -/
theorem zero_lt_debounceConfirmations (h : Inv s) : 0 < s.cfg.debounceConfirmations := by
  obtain ⟨-, -, -, -, hconfirm⟩ := h.config
  exact hconfirm

/-! ### The decoder's operations -/

theorem timeoutAction (h : Inv s) : Inv s.timeoutAction := (h.writeDecoderState _).raiseCaptured

theorem rise (h : Inv s) : Inv s.rise := by
  rcases s.rise_cases with ⟨-, hrise⟩ | ⟨-, hrise⟩ <;> rw [hrise]
  · exact (h.writeTickCount (Nat.zero_le _)).writeDecoderState _
  · exact h

theorem tick (h : Inv s) : Inv s.tick := by
  rcases s.tick_cases with ⟨-, htick⟩ | ⟨-, hlt, htick⟩ | ⟨-, -, htick⟩ <;> rw [htick]
  · exact h
  · exact h.writeTickCount hlt
  · exact (h.writeTickCount (Nat.zero_le _)).timeoutAction

theorem appendAt (h : Inv s) (k : Nat) (b : Bool) (hroom : s.cfg.overrunPolicy = .ignore → s.bitIndex < accWidth) :
    Inv (s.appendAt k b) := by
  cases b with
  | false => exact h.writeBitIndex hroom
  | true => exact (h.writeFrameAccumulator _).writeBitIndex hroom

/-- Under `ignore` the index stops at the width; under `wrap` nothing is asked of it (I-c). -/
theorem appendBit (h : Inv s) (b : Bool) : Inv (s.appendBit b) := by
  cases hp : s.cfg.overrunPolicy with
  | wrap =>
    rw [s.appendBit_wrapped b hp]
    exact h.appendAt _ b fun hi => by cases hp.symm.trans hi
  | ignore =>
    rcases Nat.lt_or_ge s.bitIndex accWidth with hlt | hge
    · rw [s.appendBit_of_lt b hlt]
      exact h.appendAt _ b fun _ => hlt
    · rw [s.appendBit_ignored b hp hge]
      exact h

theorem classify (h : Inv s) (w : Nat) : Inv (s.classify w) := by
  rcases s.classify_cases w with ⟨-, hclass⟩ | ⟨-, hclass⟩ | ⟨-, hclass⟩ <;> rw [hclass]
  · exact (h.writeFrameAccumulator 0).writeBitIndex fun _ => Nat.zero_le _
  · exact h.appendBit true
  · exact h.appendBit false

theorem fall (h : Inv s) : Inv s.fall := by
  rcases s.fall_cases with ⟨-, hfall⟩ | ⟨-, hfall⟩ <;> rw [hfall]
  · exact h
  · exact (h.writeDecoderState _).classify _

/-! ### The main loop's operations -/

theorem dispatch (h : Inv s) (v : FrameWord) (m : Bool) : Inv (s.dispatch v m) := by
  rcases s.dispatch_cases v m with ⟨k, -, hdispatch⟩ | ⟨-, hdispatch⟩ <;> rw [hdispatch]
  · exact h.writeActuator (legalActuator_pairOf k)
  · exact h

theorem take (h : Inv s) : Inv s.take := by
  rcases s.take_cases with ⟨-, htake⟩ | ⟨-, -, htake⟩ | ⟨-, -, htake⟩ <;> rw [htake]
  · exact h
  · exact h
  · exact h.clearCaptured.dispatch _ _

theorem press (h : Inv s) : Inv s.press := h.dispatch _ _

theorem btnSample (h : Inv s) (l : Level) : Inv (s.btnSample l) := by
  have hzero := h.zero_lt_debounceConfirmations
  rcases s.btnSample_cases l with
    ⟨-, -, hb⟩ | ⟨-, -, hb⟩ | ⟨hc, -, hb⟩ | ⟨hc, -, hlt, hb⟩ | ⟨-, -, -, hb⟩ <;> rw [hb]
  · exact h
  · exact h.writeDebouncer hzero fun _ => rfl
  · exact { h with debCount := hzero, idleCount := fun _ => rfl }
  · exact { h with debCount := hlt, idleCount := fun hidle => by cases hc.symm.trans hidle }
  · exact (h.writeDebouncer (d := .idle) hzero fun _ => rfl).press

theorem resetAll (h : Inv s) : Inv s.resetAll where
  config := h.config
  actuator := legalActuator_pairOf s.cfg.resetCommand
  tickCount := Nat.zero_le _
  bitIndex _ := Fin.is_le _
  debCount := h.zero_lt_debounceConfirmations
  idleCount _ := rfl

/-! ### The clock cycle -/

theorem mainLoopSide (h : Inv s) (pins : Pins) : Inv (s.mainLoopSide pins) := by
  have htaken : Inv (if pins.pollEn then s.take else s) := by
    split
    · exact h.take
    · exact h
  unfold State.mainLoopSide
  dsimp only
  split
  · exact htaken.press
  · exact htaken

theorem interruptSide (h : Inv s) (pins : Pins) : Inv (s.interruptSide pins) := by
  rcases s.interruptSide_cases pins with
    ⟨-, hi⟩ | ⟨-, -, hi⟩ | ⟨-, -, -, hi⟩ | ⟨-, -, -, hi⟩ | ⟨-, -, -, -, hi⟩ | ⟨-, -, -, -, hi⟩ <;> rw [hi]
  · exact h.tick
  · exact h.timeoutAction
  · exact h.rise
  · exact h.fall
  · exact h.tick
  · exact h

theorem cycle (h : Inv s) (pins : Pins) : Inv (s.cycle pins) := by
  cases hrst : pins.rst with
  | true => exact s.cycle_of_rst hrst ▸ h.resetAll
  | false => exact s.cycle_of_not_rst hrst ▸ ((h.mainLoopSide pins).interruptSide pins).writeIrPrev _

theorem exec {i : Instr} {t : State} (h : Inv s) (hexec : exec i s = .next t) : Inv t := by
  cases i <;> cases hexec
  case nop => exact h
  case rise => exact h.rise
  case fall => exact h.fall
  case tick => exact h.tick
  case timeout => exact h.timeoutAction
  case take => exact h.take
  case press => exact h.press
  case reset => exact h.resetAll
  case btnSample l => exact h.btnSample l
  case cycle pins => exact h.cycle pins

end Inv

/-- Settles O46: a step performs one operation on the state with its word taken off the trace, and every operation
keeps the invariants. -/
theorem stepKeepsInvariants : Obligations.StepKeepsInvariants := by
  intro s t h hstep
  obtain ⟨i, hexec⟩ := exec_of_step hstep
  exact (h.writeStimuli _).exec hexec

/-- Settles O45: the free values are an accumulator, of which nothing is asked, and an index in its range. -/
theorem resetStateMeetsInvariants : Obligations.ResetStateMeetsInvariants := by
  refine ⟨?_, fun hm => by cases hm⟩
  exact {
    config := Config.reference_wellFormed
    actuator := legalActuator_pairOf .cmdB
    tickCount := Nat.zero_le _
    bitIndex := fun _ => Fin.is_le _
    debCount := by decide
    idleCount := fun _ => rfl }

end Sys2Proof
end

section
/-! SUPPORT. The frames of the operations (spec/10_state.md R34, spec/60_exceptions.md R200): what the interrupt side
and the main loop leave unchanged, and what each of their operations does to the flag. -/

namespace Sys2Proof.Machine

/-! ### The interrupt side -/

namespace State

variable (s : State)

theorem rise_writes : ∃ d n, s.rise = { s with decoderState := d, tickCount := n } := by
  rcases s.rise_cases with ⟨-, h⟩ | ⟨-, h⟩
  · exact ⟨_, _, h⟩
  · exact ⟨s.decoderState, s.tickCount, h⟩

theorem tick_writes : ∃ d n f, s.tick = { s with decoderState := d, tickCount := n, signalCapturedFlag := f } := by
  rcases s.tick_cases with ⟨-, h⟩ | ⟨-, -, h⟩ | ⟨-, -, h⟩
  · exact ⟨s.decoderState, s.tickCount, s.signalCapturedFlag, h⟩
  · exact ⟨s.decoderState, _, s.signalCapturedFlag, h⟩
  · exact ⟨_, _, _, h⟩

/-- `t` is `s` but for the fields the interrupt side may write: the decoder's part and the flag. -/
def DecoderWrites (s t : State) : Prop :=
  ∃ d n acc k f, t = { s with
    decoderState := d, tickCount := n, frameAccumulator := acc, bitIndex := k, signalCapturedFlag := f }

theorem decoderWrites_refl : DecoderWrites s s := ⟨_, _, _, _, _, rfl⟩

theorem decoderWrites_rise : DecoderWrites s s.rise := by
  obtain ⟨d, n, h⟩ := s.rise_writes
  exact ⟨d, n, s.frameAccumulator, s.bitIndex, s.signalCapturedFlag, h⟩

theorem decoderWrites_fall : DecoderWrites s s.fall := by
  obtain ⟨d, acc, k, h⟩ := s.fall_writes
  exact ⟨d, s.tickCount, acc, k, s.signalCapturedFlag, h⟩

theorem decoderWrites_tick : DecoderWrites s s.tick := by
  obtain ⟨d, n, f, h⟩ := s.tick_writes
  exact ⟨d, n, s.frameAccumulator, s.bitIndex, f, h⟩

theorem decoderWrites_timeoutAction : DecoderWrites s s.timeoutAction := ⟨_, _, _, _, _, rfl⟩

theorem decoderWrites_interruptSide (pins : Pins) : DecoderWrites s (s.interruptSide pins) := by
  rcases s.interruptSide_cases pins with
    ⟨-, h⟩ | ⟨-, -, h⟩ | ⟨-, -, -, h⟩ | ⟨-, -, -, h⟩ | ⟨-, -, -, -, h⟩ | ⟨-, -, -, -, h⟩ <;> rw [h]
  · exact s.decoderWrites_tick
  · exact s.decoderWrites_timeoutAction
  · exact s.decoderWrites_rise
  · exact s.decoderWrites_fall
  · exact s.decoderWrites_tick
  · exact s.decoderWrites_refl

end State

theorem State.DecoderWrites.sameMainLoopPart {s t : State} (h : State.DecoderWrites s t) : SameMainLoopPart s t := by
  obtain ⟨d, n, acc, k, f, rfl⟩ := h
  exact ⟨rfl, rfl, rfl⟩

theorem State.DecoderWrites.sameOutside {s t : State} (h : State.DecoderWrites s t) : SameOutside s t := by
  obtain ⟨d, n, acc, k, f, rfl⟩ := h
  exact ⟨rfl, rfl, rfl, rfl⟩

/-- An operation of the interrupt side writes the decoder's part and the flag at most (60_exceptions.md R200). -/
theorem exec_interrupt_writes {i : Instr} {s t : State} (hi : i.context = .interrupt) (h : exec i s = .next t) :
    State.DecoderWrites s t := by
  cases i with
  | rise => exact Host.Outcome.next.inj h ▸ s.decoderWrites_rise
  | fall => exact Host.Outcome.next.inj h ▸ s.decoderWrites_fall
  | tick => exact Host.Outcome.next.inj h ▸ s.decoderWrites_tick
  | timeout => exact Host.Outcome.next.inj h ▸ s.decoderWrites_timeoutAction
  | nop | take | press | reset | btnSample l | cycle pins => cases hi

/-! ### The flag after each operation -/

namespace State

variable (s : State)

@[simp] theorem rise_signalCapturedFlag : s.rise.signalCapturedFlag = s.signalCapturedFlag := by
  obtain ⟨d, n, h⟩ := s.rise_writes
  rw [h]

@[simp] theorem fall_signalCapturedFlag : s.fall.signalCapturedFlag = s.signalCapturedFlag := by
  obtain ⟨d, acc, k, h⟩ := s.fall_writes
  rw [h]
  rfl

@[simp] theorem fall_tickCount : s.fall.tickCount = s.tickCount := by
  obtain ⟨d, acc, k, h⟩ := s.fall_writes
  rw [h]
  rfl

/-- A TICK raises the flag where it overflows, and nowhere clears it (R120, R121). -/
theorem tick_signalCapturedFlag_iff :
    s.tick.signalCapturedFlag = true ↔
      s.signalCapturedFlag = true ∨ (s.decoderState = .measuringMark ∧ s.cfg.tickMax ≤ s.tickCount) := by
  rcases s.tick_cases with ⟨hw, h⟩ | ⟨-, hlt, h⟩ | ⟨hm, hmax, h⟩ <;> rw [h]
  · simp [hw]
  · simp [Nat.not_le.mpr hlt]
  · simp [hm, hmax]

/-- A TAKE clears the flag unless the busy-wait holds it (42_frame_dispatcher.md R136, R137). -/
theorem take_signalCapturedFlag_iff :
    s.take.signalCapturedFlag = true ↔ s.signalCapturedFlag = true ∧ s.debState ≠ .idle := by
  rcases s.take_cases with ⟨hc, h⟩ | ⟨-, hflag, h⟩ | ⟨hidle, -, h⟩ <;> rw [h]
  · simp [hc]
  · simp [hflag]
  · obtain ⟨a, hdispatch⟩ := s.clearCaptured.dispatch_writes s.frameAccumulator false
    simp [hdispatch, hidle]

@[simp] theorem press_signalCapturedFlag : s.press.signalCapturedFlag = s.signalCapturedFlag := by
  obtain ⟨a, h⟩ := s.press_writes
  rw [h, writeActuator_signalCapturedFlag]

@[simp] theorem btnSample_signalCapturedFlag (l : Level) :
    (s.btnSample l).signalCapturedFlag = s.signalCapturedFlag := by
  obtain ⟨a, d, n, h⟩ := s.btnSample_writes l
  rw [h]

@[simp] theorem take_debState : s.take.debState = s.debState := by
  obtain ⟨f, a, h⟩ := s.take_writes
  rw [h]

@[simp] theorem take_debCount : s.take.debCount = s.debCount := by
  obtain ⟨f, a, h⟩ := s.take_writes
  rw [h]

end State

/-- Settles O37, from what the interrupt side writes at most, and for each operation from what it writes itself. -/
theorem interruptOperationsFrame : Obligations.InterruptOperationsFrame := by
  intro i s t hi h
  have hwrites := exec_interrupt_writes hi h
  refine ⟨hwrites.sameMainLoopPart, hwrites.sameOutside, ?_⟩
  cases i with
  | rise =>
    cases h
    obtain ⟨hacc, hindex⟩ := s.sameFrame_rise
    simp [hacc, hindex]
  | fall =>
    cases h
    simp
  | tick =>
    cases h
    obtain ⟨hacc, hindex⟩ := s.sameFrame_tick
    have hflag := s.tick_signalCapturedFlag_iff.mpr ∘ Or.inl
    simpa [hacc, hindex] using hflag
  | timeout =>
    cases h
    simp [State.timeoutAction_eq]
  | nop | take | press | reset | btnSample l | cycle pins => cases hi

/-- Settles O38, from what the main loop writes at most, and for each operation from what it writes itself. -/
theorem mainLoopOperationsFrame : Obligations.MainLoopOperationsFrame := by
  intro i s t hi h
  obtain ⟨hdecoder, houtside⟩ : SameDecoderPart s t ∧ SameOutside s t := by
    obtain ⟨f, a, d, n, rfl⟩ := exec_mainLoop_writes hi h
    exact ⟨⟨rfl, rfl, rfl, rfl, rfl⟩, rfl, rfl, rfl, rfl⟩
  refine ⟨hdecoder, houtside, ?_⟩
  cases i with
  | take =>
    cases h
    refine ⟨fun hflag => ?_, by simp, by simp⟩
    rw [← Bool.not_eq_true, s.take_signalCapturedFlag_iff, hflag]
    simp
  | press =>
    cases h
    simp
  | btnSample l =>
    cases h
    simp
  | nop | rise | fall | tick | timeout | reset | cycle pins => cases hi

end Sys2Proof.Machine
end

section
/-! SUPPORT. The decoder reads its own part of the state only (spec/20_memory.md section 4, guarantee O5): two states
with the same decoder part keep the same decoder part through each interrupt-side operation. -/

namespace Sys2Proof

open Machine

namespace SameDecoderPart

variable {s t : State}

theorem cfg (h : SameDecoderPart s t) : s.cfg = t.cfg := h.1

theorem writeDecoderState (h : SameDecoderPart s t) (v : DecoderState) :
    SameDecoderPart (s.writeDecoderState v) (t.writeDecoderState v) := by
  obtain ⟨hcfg, -, hcount, hacc, hindex⟩ := h
  exact ⟨hcfg, rfl, hcount, hacc, hindex⟩

theorem writeTickCount (h : SameDecoderPart s t) {m n : Nat} (hmn : m = n) :
    SameDecoderPart (s.writeTickCount m) (t.writeTickCount n) := by
  obtain ⟨hcfg, hd, -, hacc, hindex⟩ := h
  exact ⟨hcfg, hd, hmn, hacc, hindex⟩

theorem writeFrameAccumulator (h : SameDecoderPart s t) {v w : FrameWord} (hvw : v = w) :
    SameDecoderPart (s.writeFrameAccumulator v) (t.writeFrameAccumulator w) := by
  obtain ⟨hcfg, hd, hcount, -, hindex⟩ := h
  exact ⟨hcfg, hd, hcount, hvw, hindex⟩

theorem writeBitIndex (h : SameDecoderPart s t) {m n : Nat} (hmn : m = n) :
    SameDecoderPart (s.writeBitIndex m) (t.writeBitIndex n) := by
  obtain ⟨hcfg, hd, hcount, hacc, -⟩ := h
  exact ⟨hcfg, hd, hcount, hacc, hmn⟩

theorem timeoutAction (h : SameDecoderPart s t) : SameDecoderPart s.timeoutAction t.timeoutAction :=
  h.writeDecoderState .waitingForMark

theorem rise (h : SameDecoderPart s t) : SameDecoderPart s.rise t.rise := by
  obtain ⟨-, hd, -⟩ := id h
  unfold State.rise
  rw [hd]
  cases t.decoderState with
  | waitingForMark => exact (h.writeTickCount rfl).writeDecoderState _
  | measuringMark => exact h

theorem tick (h : SameDecoderPart s t) : SameDecoderPart s.tick t.tick := by
  obtain ⟨hcfg, hd, hcount, -⟩ := id h
  unfold State.tick
  rw [hcfg, hd, hcount]
  cases t.decoderState with
  | waitingForMark => exact h
  | measuringMark =>
    dsimp only
    split
    · exact h.writeTickCount rfl
    · exact (h.writeTickCount rfl).timeoutAction

theorem appendAt (h : SameDecoderPart s t) (k : Nat) (b : Bool) :
    SameDecoderPart (s.appendAt k b) (t.appendAt k b) := by
  obtain ⟨-, -, -, hacc, hindex⟩ := id h
  cases b with
  | false => exact h.writeBitIndex (congrArg (· + 1) hindex)
  | true => exact (h.writeFrameAccumulator (congrArg (setBit · k) hacc)).writeBitIndex (congrArg (· + 1) hindex)

theorem appendBit (h : SameDecoderPart s t) (b : Bool) : SameDecoderPart (s.appendBit b) (t.appendBit b) := by
  obtain ⟨hcfg, -, -, -, hindex⟩ := id h
  unfold State.appendBit
  rw [hcfg, hindex]
  cases t.cfg.overrunPolicy with
  | ignore =>
    dsimp only
    split
    · exact h.appendAt _ b
    · exact h
  | wrap => exact h.appendAt _ b

theorem classify (h : SameDecoderPart s t) (w : Nat) : SameDecoderPart (s.classify w) (t.classify w) := by
  unfold State.classify
  rw [h.cfg]
  cases pulseClass t.cfg w with
  | start => exact (h.writeFrameAccumulator rfl).writeBitIndex rfl
  | one => exact h.appendBit true
  | zero => exact h.appendBit false

theorem fall (h : SameDecoderPart s t) : SameDecoderPart s.fall t.fall := by
  obtain ⟨-, hd, hcount, -⟩ := id h
  unfold State.fall State.pulseWidth
  rw [hd, hcount]
  cases t.decoderState with
  | waitingForMark => exact h
  | measuringMark => exact (h.writeDecoderState _).classify _

end SameDecoderPart

/-- Settles O40, operation by operation. -/
theorem decoderIgnoresMainLoop : Obligations.DecoderIgnoresMainLoop := by
  intro i s₁ s₂ t₁ t₂ hi hsame h₁ h₂
  cases i with
  | rise =>
    cases h₁
    cases h₂
    exact hsame.rise
  | fall =>
    cases h₁
    cases h₂
    exact hsame.fall
  | tick =>
    cases h₁
    cases h₂
    exact hsame.tick
  | timeout =>
    cases h₁
    cases h₂
    exact hsame.timeoutAction
  | nop | take | press | reset | btnSample l | cycle pins => cases hi

end Sys2Proof
end

section
/-! SUPPORT. A clock cycle at the pin level (spec/45_pin_level_cycle.md R175 to R181): what each of its two sides does
and leaves unchanged, and which of the interrupt operations it performs. -/

namespace Sys2Proof.Machine

namespace State

variable (s : State) (pins : Pins)

/-! ### The main-loop side -/

/-- TAKE where it is polled, then PRESS where it is pressed (R177). -/
theorem mainLoopSide_eq :
    s.mainLoopSide pins =
      if pins.press then (if pins.pollEn then s.take else s).press else if pins.pollEn then s.take else s := rfl

/-- The main-loop side writes the flag and the actuator at most. -/
theorem mainLoopSide_writes : ∃ f a, s.mainLoopSide pins = { s with signalCapturedFlag := f, actuator := a } := by
  rw [mainLoopSide_eq]
  obtain ⟨f, a, htaken⟩ : ∃ f a,
      (if pins.pollEn then s.take else s) = { s with signalCapturedFlag := f, actuator := a } := by
    split
    · exact s.take_writes
    · exact ⟨s.signalCapturedFlag, s.actuator, rfl⟩
  rw [htaken]
  split
  · obtain ⟨a', hpress⟩ := State.press_writes { s with signalCapturedFlag := f, actuator := a }
    exact ⟨f, a', hpress⟩
  · exact ⟨f, a, rfl⟩

theorem sameDecoderPart_mainLoopSide : SameDecoderPart (s.mainLoopSide pins) s := by
  obtain ⟨f, a, h⟩ := s.mainLoopSide_writes pins
  rw [h]
  exact ⟨rfl, rfl, rfl, rfl, rfl⟩

@[simp] theorem mainLoopSide_cfg : (s.mainLoopSide pins).cfg = s.cfg := by
  obtain ⟨f, a, h⟩ := s.mainLoopSide_writes pins
  rw [h]

@[simp] theorem mainLoopSide_decoderState : (s.mainLoopSide pins).decoderState = s.decoderState := by
  obtain ⟨f, a, h⟩ := s.mainLoopSide_writes pins
  rw [h]

@[simp] theorem mainLoopSide_tickCount : (s.mainLoopSide pins).tickCount = s.tickCount := by
  obtain ⟨f, a, h⟩ := s.mainLoopSide_writes pins
  rw [h]

@[simp] theorem mainLoopSide_frameAccumulator : (s.mainLoopSide pins).frameAccumulator = s.frameAccumulator := by
  obtain ⟨f, a, h⟩ := s.mainLoopSide_writes pins
  rw [h]

@[simp] theorem mainLoopSide_bitIndex : (s.mainLoopSide pins).bitIndex = s.bitIndex := by
  obtain ⟨f, a, h⟩ := s.mainLoopSide_writes pins
  rw [h]

@[simp] theorem mainLoopSide_irPrev : (s.mainLoopSide pins).irPrev = s.irPrev := by
  obtain ⟨f, a, h⟩ := s.mainLoopSide_writes pins
  rw [h]

/-- The flag outlives the main-loop side unless an idle debouncer lets a TAKE have it. -/
theorem mainLoopSide_signalCapturedFlag_iff :
    (s.mainLoopSide pins).signalCapturedFlag = true ↔
      s.signalCapturedFlag = true ∧ ¬ (pins.pollEn = true ∧ s.debState = .idle) := by
  have hpress : (s.mainLoopSide pins).signalCapturedFlag = (if pins.pollEn then s.take else s).signalCapturedFlag := by
    rw [mainLoopSide_eq]
    split
    · exact press_signalCapturedFlag _
    · rfl
  rw [hpress]
  cases pins.pollEn with
  | false => simp
  | true => simp [s.take_signalCapturedFlag_iff]

/-! ### The interrupt side, operation by operation -/

variable {s pins}

theorem tickOverflows_iff :
    s.tickOverflows pins = true ↔
      s.decoderState = .measuringMark ∧ pins.tickEn = true ∧ s.tickCount = s.cfg.tickMax := by
  simp [tickOverflows, timerRunning, and_assoc]

theorem tickOverflows_mainLoopSide : (s.mainLoopSide pins).tickOverflows pins = s.tickOverflows pins := by
  simp [tickOverflows, timerRunning]

theorem armedEdgeSeen_eq_rising_iff {l : Level} :
    s.armedEdgeSeen l = some .rising ↔ s.irPrev = .low ∧ l = .high ∧ s.decoderState = .waitingForMark := by
  rcases s.armedEdgeSeen_cases l with ⟨hd, hprev, hl, h⟩ | ⟨hd, hprev, hl, h⟩ | ⟨hnot, -, h⟩ <;> rw [h]
  · simp [hd, hprev, hl]
  · simp [hd]
  · exact ⟨(by cases ·), fun ⟨hprev, hl, hd⟩ => absurd ⟨hd, hprev, hl⟩ hnot⟩

theorem armedEdgeSeen_eq_falling_iff {l : Level} :
    s.armedEdgeSeen l = some .falling ↔ s.irPrev = .high ∧ l = .low ∧ s.decoderState = .measuringMark := by
  rcases s.armedEdgeSeen_cases l with ⟨hd, hprev, hl, h⟩ | ⟨hd, hprev, hl, h⟩ | ⟨-, hnot, h⟩ <;> rw [h]
  · simp [hd]
  · simp [hd, hprev, hl]
  · exact ⟨(by cases ·), fun ⟨hprev, hl, hd⟩ => absurd ⟨hd, hprev, hl⟩ hnot⟩

theorem interruptSide_of_overflow (h : s.tickOverflows pins = true) : s.interruptSide pins = s.tick := if_pos h

theorem interruptSide_of_timeoutExt (h : s.tickOverflows pins = false) (hx : pins.timeoutExt = true) :
    s.interruptSide pins = s.timeoutAction := by
  simp [interruptSide, h, hx]

theorem interruptSide_of_rising (h : s.tickOverflows pins = false) (hx : pins.timeoutExt = false)
    (hedge : s.armedEdgeSeen pins.irIn = some .rising) : s.interruptSide pins = s.rise := by
  simp [interruptSide, h, hx, hedge]

theorem interruptSide_of_falling (h : s.tickOverflows pins = false) (hx : pins.timeoutExt = false)
    (hedge : s.armedEdgeSeen pins.irIn = some .falling) : s.interruptSide pins = s.fall := by
  simp [interruptSide, h, hx, hedge]

theorem interruptSide_of_none (h : s.tickOverflows pins = false) (hx : pins.timeoutExt = false)
    (hedge : s.armedEdgeSeen pins.irIn = none) : s.interruptSide pins = if pins.tickEn then s.tick else s := by
  simp [interruptSide, h, hx, hedge]

/-- The tick that overflows wraps the count and serves the timeout (41_tick_timer_timeout.md R121). -/
theorem tick_of_overflow (hm : s.decoderState = .measuringMark) (hmax : s.cfg.tickMax ≤ s.tickCount) :
    s.tick = (s.writeTickCount 0).timeoutAction := by
  rcases s.tick_cases with ⟨hw, -⟩ | ⟨-, hlt, -⟩ | ⟨-, -, h⟩
  · cases hw.symm.trans hm
  · exact absurd hlt (Nat.not_lt.mpr hmax)
  · exact h

/-! ### The flag after the interrupt side -/

theorem signalCapturedFlag_interruptSide_of_flag (hflag : s.signalCapturedFlag = true) :
    (s.interruptSide pins).signalCapturedFlag = true := by
  have htick : s.tick.signalCapturedFlag = true := s.tick_signalCapturedFlag_iff.mpr (.inl hflag)
  rcases s.interruptSide_cases pins with
    ⟨-, h⟩ | ⟨-, -, h⟩ | ⟨-, -, -, h⟩ | ⟨-, -, -, h⟩ | ⟨-, -, -, -, h⟩ | ⟨-, -, -, -, h⟩ <;> rw [h]
  · exact htick
  · rfl
  · rw [rise_signalCapturedFlag, hflag]
  · rw [fall_signalCapturedFlag, hflag]
  · exact htick
  · exact hflag

/-- Only a timeout raises the flag: an external one, or a tick of a running timer not below its maximum. -/
theorem timeout_of_signalCapturedFlag_interruptSide (hflag : (s.interruptSide pins).signalCapturedFlag = true) :
    s.signalCapturedFlag = true ∨ pins.timeoutExt = true ∨
      (pins.tickEn = true ∧ s.decoderState = .measuringMark ∧ s.cfg.tickMax ≤ s.tickCount) := by
  rcases s.interruptSide_cases pins with
    ⟨hovf, -⟩ | ⟨-, hx, -⟩ | ⟨-, -, -, h⟩ | ⟨-, -, -, h⟩ | ⟨-, -, -, htick, h⟩ | ⟨-, -, -, -, h⟩
  · obtain ⟨hm, htick, hmax⟩ := tickOverflows_iff.mp hovf
    exact .inr (.inr ⟨htick, hm, hmax.ge⟩)
  · exact .inr (.inl hx)
  · rw [h, rise_signalCapturedFlag] at hflag
    exact .inl hflag
  · rw [h, fall_signalCapturedFlag] at hflag
    exact .inl hflag
  · rw [h, tick_signalCapturedFlag_iff] at hflag
    exact hflag.imp_right fun hovf => .inr ⟨htick, hovf⟩
  · rw [h] at hflag
    exact .inl hflag

/-! ### The whole cycle -/

/-- With `rst` low, a cycle whose tick overflows serves the timeout and drops the edge (R178). -/
theorem cycle_of_overflow (hrst : pins.rst = false) (hm : s.decoderState = .measuringMark) (htick : pins.tickEn = true)
    (hmax : s.tickCount = s.cfg.tickMax) :
    s.cycle pins = (((s.mainLoopSide pins).writeTickCount 0).timeoutAction).writeIrPrev pins.irIn := by
  have hovf : (s.mainLoopSide pins).tickOverflows pins = true :=
    tickOverflows_mainLoopSide.trans (tickOverflows_iff.mpr ⟨hm, htick, hmax⟩)
  rw [s.cycle_of_not_rst hrst, interruptSide_of_overflow hovf, tick_of_overflow (by simpa using hm) (by simp [hmax])]

/-- With `rst` low and no overflow, an external timeout is served and the edge dropped (R178). -/
theorem cycle_of_timeoutExt (hrst : pins.rst = false) (hovf : s.tickOverflows pins = false)
    (hx : pins.timeoutExt = true) :
    s.cycle pins = ((s.mainLoopSide pins).timeoutAction).writeIrPrev pins.irIn := by
  rw [s.cycle_of_not_rst hrst, interruptSide_of_timeoutExt (tickOverflows_mainLoopSide.trans hovf) hx]

/-- With `rst` low a cycle leaves the debouncer, the parameters, the free values and the trace unchanged (R175). -/
theorem sameDebouncerAndOutside_cycle (hrst : pins.rst = false) :
    ((s.cycle pins).debState = s.debState ∧ (s.cycle pins).debCount = s.debCount) ∧
    (s.cycle pins).cfg = s.cfg ∧ (s.cycle pins).draws = s.draws ∧ (s.cycle pins).stimuli = s.stimuli := by
  rw [s.cycle_of_not_rst hrst]
  obtain ⟨f, a, hmain⟩ := s.mainLoopSide_writes pins
  obtain ⟨d, n, acc, k, f', hint⟩ := (s.mainLoopSide pins).decoderWrites_interruptSide pins
  rw [hint, hmain]
  exact ⟨⟨rfl, rfl⟩, rfl, rfl, rfl⟩

end State

end Sys2Proof.Machine
end

section
/-! SUPPORT. The statements about the pin level (spec/45_pin_level_cycle.md R175 to R181). -/

namespace Sys2Proof.Machine

/-! ### A cycle as a run of event-level operations -/

theorem runOps_mainLoopOps (s : State) (pins : Pins) : runOps (mainLoopOps pins) s = .next (s.mainLoopSide pins) := by
  unfold mainLoopOps
  rw [s.mainLoopSide_eq]
  cases pins.pollEn <;> cases pins.press <;> rfl

/-- What the interrupt operations are chosen by is the decoder's part and `ir_prev`, which the main-loop side leaves
unchanged. -/
theorem interruptOps_mainLoopSide (s : State) (pins : Pins) :
    interruptOps (s.mainLoopSide pins) pins = interruptOps s pins := by
  simp [interruptOps]

theorem interruptOps_of_overflow {s : State} {pins : Pins} (h : s.tickOverflows pins = true) :
    interruptOps s pins = [.tick] :=
  if_pos (State.tickOverflows_iff.mp h)

section

variable {s : State} {pins : Pins} (hovf : s.tickOverflows pins = false)

include hovf

theorem interruptOps_of_not_overflow :
    interruptOps s pins =
      if pins.timeoutExt = true then [.timeout]
      else if s.irPrev = .low ∧ pins.irIn = .high ∧ s.decoderState = .waitingForMark then [.rise]
      else if s.irPrev = .high ∧ pins.irIn = .low ∧ s.decoderState = .measuringMark then [.fall]
      else if pins.tickEn = true then [.tick]
      else [] := by
  rw [← Bool.not_eq_true, State.tickOverflows_iff] at hovf
  exact if_neg hovf

theorem interruptOps_of_timeoutExt (hx : pins.timeoutExt = true) : interruptOps s pins = [.timeout] := by
  rw [interruptOps_of_not_overflow hovf, if_pos hx]

theorem interruptOps_of_edge (hx : pins.timeoutExt = false) :
    interruptOps s pins =
      if s.armedEdgeSeen pins.irIn = some .rising then [.rise]
      else if s.armedEdgeSeen pins.irIn = some .falling then [.fall]
      else if pins.tickEn = true then [.tick]
      else [] := by
  rw [interruptOps_of_not_overflow hovf, if_neg (by simp [hx])]
  simp only [State.armedEdgeSeen_eq_rising_iff, State.armedEdgeSeen_eq_falling_iff]

end

/-- The operation `interruptOps` chooses is the one the interrupt side performs. -/
theorem runOps_interruptOps (s : State) (pins : Pins) :
    runOps (interruptOps s pins) s = .next (s.interruptSide pins) := by
  rcases s.interruptSide_cases pins with
    ⟨hovf, h⟩ | ⟨hovf, hx, h⟩ | ⟨hovf, hx, hedge, h⟩ | ⟨hovf, hx, hedge, h⟩ | ⟨hovf, hx, hedge, htick, h⟩ |
      ⟨hovf, hx, hedge, htick, h⟩ <;> rw [h]
  · rw [interruptOps_of_overflow hovf]
    rfl
  · rw [interruptOps_of_timeoutExt hovf hx]
    rfl
  · rw [interruptOps_of_edge hovf hx, if_pos hedge]
    rfl
  · rw [interruptOps_of_edge hovf hx, if_neg (by simp [hedge]), if_pos hedge]
    rfl
  · rw [interruptOps_of_edge hovf hx, if_neg (by simp [hedge]), if_neg (by simp [hedge]), if_pos htick]
    rfl
  · rw [interruptOps_of_edge hovf hx, if_neg (by simp [hedge]), if_neg (by simp [hedge]), if_neg (by simp [htick])]
    rfl

/-- Settles O31: each side of the cycle is the run of its own operations. -/
theorem cycleIsEventLevelRun : Obligations.CycleIsEventLevelRun := by
  intro s pins hrst
  refine ⟨(s.mainLoopSide pins).interruptSide pins, ?_, congrArg Host.Outcome.next (s.cycle_of_not_rst hrst)⟩
  rw [runOps_append (runOps_mainLoopOps s pins), ← interruptOps_mainLoopSide]
  exact runOps_interruptOps (s.mainLoopSide pins) pins

/-! ### Priorities within a cycle -/

/-- Settles O30. -/
theorem resetPinOverridesCycle : Obligations.ResetPinOverridesCycle := by
  intro s pins hrst
  have hcycle : exec (.cycle pins) s = exec .reset s := congrArg Host.Outcome.next (s.cycle_of_rst hrst)
  exact ⟨hcycle, _, hcycle, rfl⟩

/-- Settles O32, by the two causes of a timeout; the main-loop side touches none of the fields in question. -/
theorem timeoutBeatsEdge : Obligations.TimeoutBeatsEdge := by
  intro s pins hrst
  refine ⟨fun hm htick hmax => ?_, fun hnot hx => ?_⟩
  · exact ⟨_, congrArg Host.Outcome.next (State.cycle_of_overflow hrst hm htick hmax), rfl, rfl, rfl,
      s.mainLoopSide_frameAccumulator pins, s.mainLoopSide_bitIndex pins, rfl⟩
  · have hovf : s.tickOverflows pins = false := by
      rw [← Bool.not_eq_true, State.tickOverflows_iff]
      exact hnot
    exact ⟨_, congrArg Host.Outcome.next (State.cycle_of_timeoutExt hrst hovf hx), rfl,
      s.mainLoopSide_tickCount pins, rfl, s.mainLoopSide_frameAccumulator pins, s.mainLoopSide_bitIndex pins, rfl⟩

section

variable {s : State} {pins : Pins} (hrst : pins.rst = false) (hx : pins.timeoutExt = false)

include hrst hx

/-- With neither reset nor timeout, a rising edge seen while waiting is the cycle's operation. -/
theorem State.cycle_of_rising (hw : s.decoderState = .waitingForMark) (hprev : s.irPrev = .low)
    (hin : pins.irIn = .high) : s.cycle pins = ((s.mainLoopSide pins).measuringAt 0).writeIrPrev .high := by
  have hw' : (s.mainLoopSide pins).decoderState = .waitingForMark := by simpa using hw
  have hovf : (s.mainLoopSide pins).tickOverflows pins = false := by simp [State.tickOverflows, State.timerRunning, hw]
  have hedge : (s.mainLoopSide pins).armedEdgeSeen pins.irIn = some .rising :=
    State.armedEdgeSeen_eq_rising_iff.mpr ⟨by simpa using hprev, hin, hw'⟩
  rw [s.cycle_of_not_rst hrst, State.interruptSide_of_rising hovf hx hedge, State.rise_of_waiting hw', hin]

/-- With neither reset nor timeout, a falling edge seen while measuring is the cycle's operation. -/
theorem State.cycle_of_falling (hm : s.decoderState = .measuringMark) (hlt : s.tickCount < s.cfg.tickMax)
    (hprev : s.irPrev = .high) (hin : pins.irIn = .low) :
    s.cycle pins = (s.mainLoopSide pins).fall.writeIrPrev .low := by
  have hovf : (s.mainLoopSide pins).tickOverflows pins = false := by
    simp [State.tickOverflows, hlt.ne]
  have hedge : (s.mainLoopSide pins).armedEdgeSeen pins.irIn = some .falling :=
    State.armedEdgeSeen_eq_falling_iff.mpr ⟨by simpa using hprev, hin, by simpa using hm⟩
  rw [s.cycle_of_not_rst hrst, State.interruptSide_of_falling hovf hx hedge, hin]

/-- With neither reset nor timeout, a tick of a mark that goes on is counted. -/
theorem State.cycle_of_counted (hm : s.decoderState = .measuringMark) (hlt : s.tickCount < s.cfg.tickMax)
    (hin : pins.irIn = .high) (htick : pins.tickEn = true) :
    s.cycle pins = ((s.mainLoopSide pins).writeTickCount (s.tickCount + 1)).writeIrPrev .high := by
  have hovf : (s.mainLoopSide pins).tickOverflows pins = false := by
    simp [State.tickOverflows, hlt.ne]
  have hedge : (s.mainLoopSide pins).armedEdgeSeen pins.irIn = none := by
    simp [State.armedEdgeSeen, State.armedEdge, State.seesFall, hm, hin]
  have hcount : (s.mainLoopSide pins).tick = (s.mainLoopSide pins).writeTickCount (s.tickCount + 1) := by
    rw [State.tick_of_measuring_of_lt (by simpa using hm) (by simpa using hlt), s.mainLoopSide_tickCount]
  rw [s.cycle_of_not_rst hrst, State.interruptSide_of_none hovf hx hedge, if_pos htick, hcount, hin]

end

/-- Settles O33: the cycle performs the edge's operation alone, and the decoder does not see what the main-loop side
wrote before it. -/
theorem edgeBeatsTick : Obligations.EdgeBeatsTick := by
  intro s pins hrst hx htick
  refine ⟨fun hm hlt hprev hin => ?_, fun hw hprev hin => ?_⟩
  · have hfall := State.cycle_of_falling hrst hx hm hlt hprev hin
    have hsame : SameDecoderPart (s.mainLoopSide pins).fall s.fall := (s.sameDecoderPart_mainLoopSide pins).fall
    exact ⟨_, s.fall, congrArg Host.Outcome.next hfall, rfl, hsame, by simp, rfl⟩
  · have hrise := State.cycle_of_rising hrst hx hw hprev hin
    exact ⟨_, congrArg Host.Outcome.next hrise, rfl, rfl, rfl⟩

/-! ### The main-loop side within a cycle -/

/-- A TAKE of a recognized frame drives that command's pair (42_frame_dispatcher.md R136, R138). -/
theorem State.take_of_known {s : State} {k : KnownCommand} (hidle : s.debState = .idle)
    (hflag : s.signalCapturedFlag = true) (hlookup : lookup s.cfg s.frameAccumulator = .known k) :
    s.take = s.clearCaptured.writeActuator (pairOf k) := by
  rcases s.take_cases with ⟨hc, -⟩ | ⟨-, hclear, -⟩ | ⟨-, -, h⟩
  · cases hidle.symm.trans hc
  · cases hflag.symm.trans hclear
  · exact h.trans (s.clearCaptured.dispatch_known hlookup false)

/-- A PRESS while a command's indicator shows drives the other command's pair (43_manual_override.md R150). -/
theorem State.press_of_indicator {s : State} {k : KnownCommand} (hcodes : s.cfg.CodesDiffer)
    (hk : s.actuator.indicator = (pairOf k).indicator) : s.press = s.writeActuator (pairOf (otherCommand k)) := by
  have hcommand : s.currentCommand = k := by
    rw [State.currentCommand, hk]
    cases k <;> rfl
  rw [s.press_eq hcodes, hcommand]

theorem State.press_of_pair {s : State} {k : KnownCommand} (hcodes : s.cfg.CodesDiffer)
    (hpair : s.actuator = pairOf k) : s.press = s.writeActuator (pairOf (otherCommand k)) :=
  State.press_of_indicator hcodes (congrArg Actuator.indicator hpair)

/-- The pair a polled command's code leaves, or the other pair where a PRESS follows (R180). -/
theorem State.mainLoopSide_actuator_of_codeOf {s : State} {pins : Pins} {k : KnownCommand} (hcodes : s.cfg.CodesDiffer)
    (hpoll : pins.pollEn = true) (hidle : s.debState = .idle) (hflag : s.signalCapturedFlag = true)
    (hacc : s.frameAccumulator = codeOf s.cfg k) :
    (s.mainLoopSide pins).actuator = if pins.press then pairOf (otherCommand k) else pairOf k := by
  have htake := State.take_of_known hidle hflag (hacc ▸ lookup_codeOf hcodes k)
  rw [s.mainLoopSide_eq, hpoll, if_pos rfl, htake]
  cases pins.press with
  | false => rfl
  | true =>
    have hpress := State.press_of_pair (s := s.clearCaptured.writeActuator (pairOf k)) hcodes rfl
    exact congrArg State.actuator hpress

/-- Settles O34: the interrupt side does not touch the pair, and finds the flag cleared by the TAKE. -/
theorem mainLoopSideRunsFirst : Obligations.MainLoopSideRunsFirst := by
  intro s pins k hinv hrst hpoll hidle hflag hacc
  obtain ⟨-, hcodes, -⟩ := hinv.config
  refine ⟨_, congrArg Host.Outcome.next (s.cycle_of_not_rst hrst), ?_, ?_⟩
  · obtain ⟨-, hpair⟩ := (s.mainLoopSide pins).sameChannels_interruptSide pins
    exact hpair.trans (State.mainLoopSide_actuator_of_codeOf hcodes hpoll hidle hflag hacc)
  · have hcleared : ¬ (s.mainLoopSide pins).signalCapturedFlag = true := by
      rw [s.mainLoopSide_signalCapturedFlag_iff]
      exact fun ⟨_, hheld⟩ => hheld ⟨hpoll, hidle⟩
    constructor
    · intro hraised
      rcases State.timeout_of_signalCapturedFlag_interruptSide hraised with h | hx | ⟨htick, hm, hmax⟩
      · exact absurd h hcleared
      · exact .inl hx
      · rw [s.mainLoopSide_cfg, s.mainLoopSide_tickCount] at hmax
        exact .inr ⟨s.mainLoopSide_decoderState pins ▸ hm, htick, le_antisymm hinv.tickCount hmax⟩
    · intro hcause
      cases hovf : s.tickOverflows pins with
      | true =>
        obtain ⟨hm, htick, hmax⟩ := State.tickOverflows_iff.mp hovf
        rw [← s.cycle_of_not_rst hrst, State.cycle_of_overflow hrst hm htick hmax]
        rfl
      | false =>
        have hx := hcause.resolve_right fun h => by simp [State.tickOverflows_iff.mpr h] at hovf
        rw [← s.cycle_of_not_rst hrst, State.cycle_of_timeoutExt hrst hovf hx]
        rfl

/-! ### A mark as a run of HIGH cycles -/

/-- Inside a mark, `n` ticks after the cycle that saw its rising edge, with the frame and the parameters of `s`. -/
structure InMark (s t : State) (n : Nat) : Prop where
  measuring : t.decoderState = .measuringMark
  tickCount : t.tickCount = n
  irPrev : t.irPrev = .high
  frame : SameFrame s t
  cfg : t.cfg = s.cfg

theorem exec_lineCycle_high_of_waiting {s : State} (hw : s.decoderState = .waitingForMark) (hprev : s.irPrev = .low) :
    ∃ t, exec (Wire.lineCycle .high) s = .next t ∧ InMark s t 0 := by
  refine ⟨_, congrArg Host.Outcome.next (State.cycle_of_rising rfl rfl hw hprev rfl), rfl, rfl, rfl, ⟨?_, ?_⟩, ?_⟩
  · exact s.mainLoopSide_frameAccumulator _
  · exact s.mainLoopSide_bitIndex _
  · exact s.mainLoopSide_cfg _

theorem exec_lineCycle_high_of_inMark {s t : State} {n : Nat} (h : InMark s t n) (hn : n < s.cfg.tickMax) :
    ∃ u, exec (Wire.lineCycle .high) t = .next u ∧ InMark s u (n + 1) := by
  obtain ⟨hm, rfl, -, ⟨hacc, hindex⟩, hcfg⟩ := h
  rw [← hcfg] at hn
  refine ⟨_, congrArg Host.Outcome.next (State.cycle_of_counted rfl rfl hm hn rfl rfl), ?_, rfl, rfl, ⟨?_, ?_⟩, ?_⟩
  · exact (t.mainLoopSide_decoderState _).trans hm
  · exact (t.mainLoopSide_frameAccumulator _).trans hacc
  · exact (t.mainLoopSide_bitIndex _).trans hindex
  · exact (t.mainLoopSide_cfg _).trans hcfg

theorem runOps_lineCycles_high {s : State} (hw : s.decoderState = .waitingForMark) (hprev : s.irPrev = .low) {n : Nat}
    (hn : n ≤ s.cfg.tickMax) :
    ∃ t, runOps (Wire.lineCycles (List.replicate (n + 1) .high)) s = .next t ∧ InMark s t n := by
  induction n with
  | zero =>
    obtain ⟨t, hexec, ht⟩ := exec_lineCycle_high_of_waiting hw hprev
    exact ⟨t, runOps_cons_of_next hexec [], ht⟩
  | succ n ih =>
    obtain ⟨t, hrun, ht⟩ := ih (by omega)
    obtain ⟨u, hexec, hu⟩ := exec_lineCycle_high_of_inMark ht hn
    refine ⟨u, ?_, hu⟩
    rw [List.replicate_succ', Wire.lineCycles, List.map_append]
    exact (runOps_append hrun _).trans (runOps_cons_of_next hexec [])

/-- Settles O35, by induction on the cycles after the one that sees the rising edge. -/
theorem highCyclesAreCounted : Obligations.HighCyclesAreCounted := by
  intro s n hw hprev hn
  obtain ⟨t, hrun, ht⟩ := runOps_lineCycles_high hw hprev hn
  obtain ⟨hacc, hindex⟩ := ht.frame
  exact ⟨t, hrun, ht.measuring, ht.tickCount, ht.irPrev, hacc, hindex⟩

/-! ### The pin-level invariant -/

/-- An interrupt side that leaves the decoder measuring saw a HIGH line: a rising edge, or no falling one. -/
theorem State.irIn_high_of_interruptSide_measuring {s : State} {pins : Pins} (hinv : PinLevelInv s)
    (hm : (s.interruptSide pins).decoderState = .measuringMark) : pins.irIn = .high := by
  have hnotFalling (hd : s.decoderState = .measuringMark) (hedge : s.armedEdgeSeen pins.irIn = none) :
      pins.irIn = .high := by
    cases hin : pins.irIn with
    | high => rfl
    | low =>
      rw [State.armedEdgeSeen_eq_falling_iff.mpr ⟨hinv hd, hin, hd⟩] at hedge
      cases hedge
  rcases s.interruptSide_cases pins with
    ⟨hovf, h⟩ | ⟨-, -, h⟩ | ⟨-, -, hedge, -⟩ | ⟨-, -, -, h⟩ | ⟨-, -, hedge, -, h⟩ | ⟨-, -, hedge, -, h⟩
  · obtain ⟨hd, -, hmax⟩ := State.tickOverflows_iff.mp hovf
    rw [h, State.tick_of_overflow hd hmax.ge] at hm
    cases hm
  · rw [h] at hm
    cases hm
  · exact (State.armedEdgeSeen_eq_rising_iff.mp hedge).2.1
  · rw [h, State.fall_decoderState] at hm
    cases hm
  · rw [h, State.tick_decoderState] at hm
    split at hm
    · cases hm
    · exact hnotFalling hm hedge
  · rw [h] at hm
    exact hnotFalling hm hedge

/-- Settles O36: after a cycle `ir_prev` is the level the cycle saw. -/
theorem cycleKeepsPinLevelInvariant : Obligations.CycleKeepsPinLevelInvariant := by
  intro s t pins hinv h
  cases h
  cases hrst : pins.rst with
  | true =>
    rw [s.cycle_of_rst hrst]
    exact fun hm => by cases hm
  | false =>
    rw [s.cycle_of_not_rst hrst]
    refine State.irIn_high_of_interruptSide_measuring (s := s.mainLoopSide pins) fun hm => ?_
    rw [s.mainLoopSide_irPrev]
    exact hinv (s.mainLoopSide_decoderState pins ▸ hm)

/-! ### The frame of RESET and CYCLE -/

/-- Settles O39. -/
theorem resetAndCycleFrame : Obligations.ResetAndCycleFrame := by
  intro s t pins
  refine ⟨fun h => ?_, fun h => ?_⟩
  · cases h
    exact ⟨rfl, rfl⟩
  · cases h
    cases hrst : pins.rst with
    | true =>
      rw [s.cycle_of_rst hrst]
      exact ⟨rfl, rfl, fun hlow => by cases hlow⟩
    | false =>
      obtain ⟨⟨hstate, hcount⟩, hcfg, hdraws, hstimuli⟩ := State.sameDebouncerAndOutside_cycle (s := s) hrst
      refine ⟨hcfg, hstimuli, fun _ => ⟨hstate, hcount, hdraws, ?_⟩⟩
      rw [s.cycle_of_not_rst hrst]
      rfl

/-! ### Who owns the flag -/

/-- A cycle raises the flag only by a timeout, external or of a tick not below the maximum. -/
theorem State.timeout_of_cycle_raises {s : State} {pins : Pins} (hrst : pins.rst = false)
    (hclear : s.signalCapturedFlag = false) (hraised : (s.cycle pins).signalCapturedFlag = true) :
    pins.timeoutExt = true ∨ (pins.tickEn = true ∧ s.decoderState = .measuringMark ∧ s.cfg.tickMax ≤ s.tickCount) := by
  rw [s.cycle_of_not_rst hrst] at hraised
  rcases State.timeout_of_signalCapturedFlag_interruptSide hraised with hkept | hcause
  · rw [s.mainLoopSide_signalCapturedFlag_iff] at hkept
    cases hclear.symm.trans hkept.1
  · simpa using hcause

/-- A cycle clears the flag only by RESET or by a TAKE that is not held. -/
theorem State.taken_of_cycle_clears {s : State} {pins : Pins} (hflag : s.signalCapturedFlag = true)
    (hcleared : (s.cycle pins).signalCapturedFlag = false) :
    pins.rst = true ∨ (pins.pollEn = true ∧ s.debState = .idle) := by
  by_contra hnot
  obtain ⟨hrst, hheld⟩ := not_or.mp hnot
  rw [s.cycle_of_not_rst (Bool.not_eq_true _ ▸ hrst)] at hcleared
  have hkept := (s.mainLoopSide_signalCapturedFlag_iff pins).mpr ⟨hflag, hheld⟩
  cases (State.signalCapturedFlag_interruptSide_of_flag hkept).symm.trans hcleared

/-- The operations that may write the flag (10_state.md R34). -/
def MayWriteFlag (i : Instr) : Prop :=
  i = .tick ∨ i = .timeout ∨ i = .take ∨ i = .reset ∨ ∃ pins, i = .cycle pins

theorem mayWriteFlag_of_exec {i : Instr} {s t : State} (h : exec i s = .next t)
    (hne : t.signalCapturedFlag ≠ s.signalCapturedFlag) : MayWriteFlag i := by
  cases i with
  | nop => exact absurd (Host.Outcome.next.inj h ▸ rfl) hne
  | rise => exact absurd (Host.Outcome.next.inj h ▸ s.rise_signalCapturedFlag) hne
  | fall => exact absurd (Host.Outcome.next.inj h ▸ s.fall_signalCapturedFlag) hne
  | press => exact absurd (Host.Outcome.next.inj h ▸ s.press_signalCapturedFlag) hne
  | btnSample l => exact absurd (Host.Outcome.next.inj h ▸ s.btnSample_signalCapturedFlag l) hne
  | tick | timeout | take | reset | cycle pins => simp [MayWriteFlag]

/-- Settles O42: of the operations that may write the flag, TAKE and RESET cannot raise it, TICK and TIMEOUT cannot
clear it. -/
theorem flagTransitionsAreOwned : Obligations.FlagTransitionsAreOwned := by
  intro i s t h
  refine ⟨fun hclear hraised => ?_, fun hflag hcleared => ?_⟩
  · rcases mayWriteFlag_of_exec h (by simp [hclear, hraised]) with rfl | rfl | rfl | rfl | ⟨pins, rfl⟩ <;> cases h
    · rcases s.tick_signalCapturedFlag_iff.mp hraised with hset | hovf
      · cases hclear.symm.trans hset
      · exact .inr (.inl ⟨rfl, hovf⟩)
    · exact .inl rfl
    · cases hclear.symm.trans (s.take_signalCapturedFlag_iff.mp hraised).1
    · cases hraised
    · cases hrst : pins.rst with
      | true =>
        rw [s.cycle_of_rst hrst] at hraised
        cases hraised
      | false => exact .inr (.inr ⟨pins, rfl, hrst, State.timeout_of_cycle_raises hrst hclear hraised⟩)
  · rcases mayWriteFlag_of_exec h (by simp [hflag, hcleared]) with rfl | rfl | rfl | rfl | ⟨pins, rfl⟩ <;> cases h
    · cases (s.tick_signalCapturedFlag_iff.mpr (.inl hflag)).symm.trans hcleared
    · cases hcleared
    · refine .inl ⟨rfl, ?_⟩
      by_contra hheld
      cases (s.take_signalCapturedFlag_iff.mpr ⟨hflag, hheld⟩).symm.trans hcleared
    · exact .inr (.inl rfl)
    · exact .inr (.inr ⟨pins, rfl, State.taken_of_cycle_clears hflag hcleared⟩)

end Sys2Proof.Machine
end

section
/-! SUPPORT. The statements about accumulator and index (spec/10_state.md section 3, I-a and J-c of section 9): a FALL
is the only operation but RESET that writes them, at the event level and inside a clock cycle, and what it can do to
them. -/

namespace Sys2Proof.Machine

/-! ### What a FALL does to the frame -/

namespace State

variable (s : State)

/-- AppendBit drops the pulse, or appends at a position below the width: at the index itself while there is room. -/
theorem appendBit_target (b : Bool) :
    s.appendBit b = s ∨
    ∃ k, k < accWidth ∧ (s.bitIndex < accWidth → k = s.bitIndex) ∧ s.appendBit b = s.appendAt k b := by
  rcases Nat.lt_or_ge s.bitIndex accWidth with hlt | hge
  · exact .inr ⟨s.bitIndex, hlt, fun _ => rfl, s.appendBit_of_lt b hlt⟩
  · rcases s.appendBit_cases b with h | ⟨k, hk, h⟩
    · exact .inl h
    · exact .inr ⟨k, hk, fun hlt => absurd hlt (Nat.not_lt.mpr hge), h⟩

/-- The three things a FALL can do to the frame: clear it at the end of a start pulse, leave it, or append one bit. -/
theorem fall_frame_cases :
    (s.decoderState = .measuringMark ∧ s.cfg.startThreshold < s.tickCount ∧
      s.fall.frameAccumulator = 0 ∧ s.fall.bitIndex = 0) ∨
    SameFrame s s.fall ∨
    ∃ k b, k < accWidth ∧ (s.bitIndex < accWidth → k = s.bitIndex) ∧ SameFrame (s.appendAt k b) s.fall := by
  have happended (b : Bool) (h : s.fall = (s.writeDecoderState .waitingForMark).appendBit b) :
      SameFrame s s.fall ∨
      ∃ k b, k < accWidth ∧ (s.bitIndex < accWidth → k = s.bitIndex) ∧ SameFrame (s.appendAt k b) s.fall := by
    rw [h]
    rcases (s.writeDecoderState .waitingForMark).appendBit_target b with hsame | ⟨k, hk, hroom, happend⟩
    · rw [hsame]
      exact .inl ⟨rfl, rfl⟩
    · rw [happend]
      exact .inr ⟨k, b, hk, hroom, by cases b <;> exact ⟨rfl, rfl⟩⟩
  rcases s.fall_cases with ⟨-, h⟩ | ⟨hm, h⟩
  · rw [h]
    exact .inr (.inl ⟨rfl, rfl⟩)
  · rcases (s.writeDecoderState .waitingForMark).classify_cases s.tickCount with
      ⟨hstart, hclass⟩ | ⟨-, hclass⟩ | ⟨-, hclass⟩
    · rw [h, hclass]
      exact .inl ⟨hm, pulseClass_eq_start_iff.mp hstart, rfl, rfl⟩
    · exact .inr (happended true (h.trans hclass))
    · exact .inr (happended false (h.trans hclass))

end State

/-! ### Which operations write the frame -/

theorem SameFrame.trans {s t u : State} (hst : SameFrame s t) (htu : SameFrame t u) : SameFrame s u :=
  ⟨htu.1.trans hst.1, htu.2.trans hst.2⟩

/-- A cycle with `rst` low leaves the frame as it is, or does to it what a FALL does. -/
theorem State.cycle_frame (s : State) {pins : Pins} (hrst : pins.rst = false) :
    SameFrame s (s.cycle pins) ∨ (interruptOps s pins = [.fall] ∧ SameFrame s.fall (s.cycle pins)) := by
  rw [s.cycle_of_not_rst hrst, ← interruptOps_mainLoopSide]
  have hmain : SameFrame s (s.mainLoopSide pins) := ⟨s.mainLoopSide_frameAccumulator pins, s.mainLoopSide_bitIndex pins⟩
  rcases (s.mainLoopSide pins).interruptSide_cases pins with
    ⟨-, h⟩ | ⟨-, -, h⟩ | ⟨-, -, -, h⟩ | ⟨hovf, hx, hedge, h⟩ | ⟨-, -, -, -, h⟩ | ⟨-, -, -, -, h⟩ <;> rw [h]
  · exact .inl (hmain.trans (s.mainLoopSide pins).sameFrame_tick)
  · exact .inl hmain
  · exact .inl (hmain.trans (s.mainLoopSide pins).sameFrame_rise)
  · obtain ⟨-, -, -, hacc, hindex⟩ := (s.sameDecoderPart_mainLoopSide pins).fall
    exact .inr ⟨by simp [interruptOps_of_edge hovf hx, hedge], hacc, hindex⟩
  · exact .inl (hmain.trans (s.mainLoopSide pins).sameFrame_tick)
  · exact .inl hmain

/-- The operation is a FALL, or a clock cycle that performs one. -/
def PerformsFall (i : Instr) (s : State) : Prop :=
  i = .fall ∨ ∃ pins, i = .cycle pins ∧ interruptOps s pins = [.fall]

/-- RESET apart, an operation leaves the frame as it is, or it performs a FALL and does to the frame what FALL does. -/
theorem frame_of_exec {i : Instr} {s t : State} (hreset : i ≠ .reset)
    (hrst : ∀ pins, i = .cycle pins → pins.rst = false) (h : exec i s = .next t) :
    SameFrame s t ∨ (PerformsFall i s ∧ SameFrame s.fall t) := by
  cases i with
  | fall =>
    cases h
    exact .inr ⟨.inl rfl, rfl, rfl⟩
  | cycle pins =>
    cases h
    exact (s.cycle_frame (hrst pins rfl)).imp_right fun ⟨hops, hsame⟩ => ⟨.inr ⟨pins, rfl, hops⟩, hsame⟩
  | reset => exact absurd rfl hreset
  | nop | rise | tick | timeout | take | press | btnSample l =>
    exact .inl (sameFrame_of_exec (by simp) (by simp) (by simp) h)

/-- Settles O43, by the three things a FALL can do to the frame. -/
theorem accumulatorNeverLosesOneBit : Obligations.AccumulatorNeverLosesOneBit := by
  intro i s t hreset hrst h
  rcases frame_of_exec hreset hrst h with ⟨hacc, hindex⟩ | ⟨hperforms, hacc, hindex⟩ <;> rw [hacc, hindex]
  · exact .inr ⟨le_rfl, Nat.le_succ _, .inl rfl⟩
  · rcases s.fall_frame_cases with
      ⟨hm, hstart, hacc', hindex'⟩ | ⟨hacc', hindex'⟩ | ⟨k, b, hk, -, hacc', hindex'⟩ <;> rw [hacc', hindex']
    · exact .inl ⟨rfl, rfl, hm, hstart, hperforms⟩
    · exact .inr ⟨le_rfl, Nat.le_succ _, .inl rfl⟩
    · cases b with
      | false => exact .inr ⟨Nat.le_succ _, le_rfl, .inl rfl⟩
      | true => exact .inr ⟨Nat.le_succ _, le_rfl, .inr ⟨rfl, k, hk, rfl⟩⟩

/-! ### The bits not yet written -/

theorem unwrittenBitsClear_of_sameFrame {s t : State} (h : SameFrame s t) (hclear : UnwrittenBitsClear s) :
    UnwrittenBitsClear t := by
  obtain ⟨hacc, hindex⟩ := h
  intro k hk hwidth
  rw [hacc]
  exact hclear k (hindex ▸ hk) hwidth

theorem unwrittenBitsClear_of_acc_zero {s : State} (hacc : s.frameAccumulator = 0) : UnwrittenBitsClear s := by
  intro k _ _
  simp [hacc]

/-- An append at the index leaves the bits above it alone. -/
theorem unwrittenBitsClear_appendAt {s : State} {k : Nat} (b : Bool) (hroom : s.bitIndex < accWidth → k = s.bitIndex)
    (hclear : UnwrittenBitsClear s) : UnwrittenBitsClear (s.appendAt k b) := by
  intro j hj hwidth
  have hindex : (s.appendAt k b).bitIndex = s.bitIndex + 1 := by cases b <;> rfl
  rw [hindex] at hj
  have hbit := hclear j (by omega) hwidth
  cases b with
  | false => exact hbit
  | true =>
    have hne : j ≠ k := by
      rw [hroom (by omega)]
      omega
    calc (setBit s.frameAccumulator k).getLsbD j
        = (s.frameAccumulator.getLsbD j || decide (j = k)) := setBit_getLsbD _ hwidth
      _ = false := by simp [hbit, hne]

theorem unwrittenBitsClear_fall {s : State} (hclear : UnwrittenBitsClear s) : UnwrittenBitsClear s.fall := by
  rcases s.fall_frame_cases with ⟨-, -, hacc, -⟩ | hsame | ⟨k, b, -, hroom, hsame⟩
  · exact unwrittenBitsClear_of_acc_zero hacc
  · exact unwrittenBitsClear_of_sameFrame hsame hclear
  · exact unwrittenBitsClear_of_sameFrame hsame (unwrittenBitsClear_appendAt b hroom hclear)

/-- Settles O47: a start pulse clears the whole accumulator, and every operation but RESET leaves the frame as it is or
does to it what a FALL does. -/
theorem unwrittenBitsStayClear : Obligations.UnwrittenBitsStayClear := by
  refine ⟨fun s t hm hstart h => ?_, fun i s t hreset hrst hclear h => ?_⟩
  · cases h
    rw [State.fall_of_startPulse hm hstart]
    exact unwrittenBitsClear_of_acc_zero rfl
  · rcases frame_of_exec hreset hrst h with hsame | ⟨-, hsame⟩
    · exact unwrittenBitsClear_of_sameFrame hsame hclear
    · exact unwrittenBitsClear_of_sameFrame hsame (unwrittenBitsClear_fall hclear)

/-! ### A partial frame -/

/-- With the debouncer idle and no recognized code, a TAKE clears the flag and no more. -/
theorem State.take_of_unrecognized {s : State} (hidle : s.debState = .idle)
    (hlookup : lookup s.cfg s.frameAccumulator = .unrecognized) : s.take = s.clearCaptured := by
  rcases s.take_cases with ⟨hc, -⟩ | ⟨-, hflag, h⟩ | ⟨-, -, h⟩
  · cases hidle.symm.trans hc
  · rw [h, State.clearCaptured, ← hflag]
  · exact h.trans (s.clearCaptured.dispatch_unrecognized hlookup false)

/-- Settles O48: with fewer than 32 bits written bit 31 is clear, and both codes have it set. -/
theorem partialFrameNeverMatches : Obligations.PartialFrameNeverMatches := by
  intro s hcodes hclear hindex hidle
  obtain ⟨hA, hB⟩ := hcodes
  have hbit : s.frameAccumulator.getLsbD 31 = false := hclear 31 hindex (by decide)
  have hne {c : FrameWord} (hc : c.getLsbD 31 = true) : s.frameAccumulator ≠ c := by
    rintro rfl
    cases hbit.symm.trans hc
  exact congrArg Host.Outcome.next
    (State.take_of_unrecognized hidle (lookup_eq_unrecognized_iff.mpr ⟨hne hA, hne hB⟩))

end Sys2Proof.Machine
end

section
/-! SUPPORT. The remaining statements about single operations: NOP, the edges, TICK and TIMEOUT
(spec/40_pulse_decoder.md, spec/41_tick_timer_timeout.md), TAKE, PRESS and BTN_SAMPLE (spec/42_frame_dispatcher.md,
spec/43_manual_override.md), and RESET (spec/70_reset_and_hazards.md R220, R221). -/

namespace Sys2Proof.Machine

/-! ### The decoder and its timer -/

/-- Settles O10. -/
theorem nopChangesNothing : Obligations.NopChangesNothing := ⟨rfl, fun _ => rfl⟩

namespace State

variable {s : State}

theorem rise_of_measuring (hm : s.decoderState = .measuringMark) : s.rise = s := by
  simp [rise, hm]

theorem fall_of_waiting (hw : s.decoderState = .waitingForMark) : s.fall = s := by
  simp [fall, hw]

end State

/-- Settles O12, by the branch of each edge that is not armed. -/
theorem unarmedEdgesChangeNothing : Obligations.UnarmedEdgesChangeNothing :=
  ⟨fun _ hm => congrArg Host.Outcome.next (State.rise_of_measuring hm),
    fun _ hw => congrArg Host.Outcome.next (State.fall_of_waiting hw)⟩

/-- A width that is no start marker is a data pulse, and `dataOneThreshold` says which (30_encoding.md R85). -/
theorem pulseClass_of_le_startThreshold {c : Config} {w : Nat} (h : w ≤ c.startThreshold) :
    pulseClass c w = if decide (c.dataOneThreshold < w) then .one else .zero := by
  simp [pulseClass, Nat.not_lt.mpr h]

/-- Settles O16: `ignore` drops the pulse whichever bit it carries, `wrap` appends at the index modulo 32. -/
theorem overrunPulseFollowsPolicy : Obligations.OverrunPulseFollowsPolicy := by
  intro s hm hdata hfull
  refine ⟨fun hp => ?_, fun hp hone => ?_, fun hp hzero => ?_⟩
  · have hfall := State.fall_of_dataPulse _ hm (pulseClass_of_le_startThreshold hdata)
    exact congrArg Host.Outcome.next (hfall.trans (State.appendBit_ignored _ _ hp hfull))
  · have hfall := State.fall_of_dataPulse true hm (pulseClass_eq_one hone hdata)
    exact congrArg Host.Outcome.next (hfall.trans (State.appendBit_wrapped _ _ hp))
  · have hfall := State.fall_of_dataPulse false hm (pulseClass_eq_zero hzero hdata)
    exact congrArg Host.Outcome.next (hfall.trans (State.appendBit_wrapped _ _ hp))

/-- Settles O18. -/
theorem tickOverflowServesTimeout : Obligations.TickOverflowServesTimeout :=
  fun _ hm hmax => congrArg Host.Outcome.next (State.tick_of_overflow hm hmax.ge)

/-- Settles O19. -/
theorem timeoutPublishesFrame : Obligations.TimeoutPublishesFrame := ⟨rfl, fun _ => rfl⟩

/-! ### The dispatcher -/

theorem State.take_of_confirm {s : State} (hc : s.debState = .confirm) : s.take = s := by
  simp [State.take, hc]

theorem State.take_of_flag_clear {s : State} (hflag : s.signalCapturedFlag = false) : s.take = s := by
  rcases s.take_cases with ⟨-, h⟩ | ⟨-, -, h⟩ | ⟨-, hset, -⟩
  · exact h
  · exact h
  · cases hflag.symm.trans hset

/-- Settles O20, by what Lookup answers for the accumulator: command A, command B, unrecognized; last, no hand-off. -/
theorem takeConsumesHandOff : Obligations.TakeConsumesHandOff := by
  refine ⟨rfl, fun s hidle hflag hA => ?_, fun s hcodes hidle hflag hB => ?_, fun s hidle hflag hA hB => ?_,
    fun s hidle hflag => ?_⟩
  · exact congrArg Host.Outcome.next (State.take_of_known hidle hflag (lookup_of_eq_codeA hA))
  · have hA : s.frameAccumulator ≠ s.cfg.codeA := fun hA => hcodes (hA.symm.trans hB)
    exact congrArg Host.Outcome.next (State.take_of_known hidle hflag (lookup_of_eq_codeB hA hB))
  · exact congrArg Host.Outcome.next (State.take_of_unrecognized hidle (lookup_eq_unrecognized_iff.mpr ⟨hA, hB⟩))
  · exact congrArg Host.Outcome.next (State.take_of_flag_clear hflag)

/-- Settles O21. -/
theorem heldTakeChangesNothing : Obligations.HeldTakeChangesNothing :=
  fun _ hc => congrArg Host.Outcome.next (State.take_of_confirm hc)

/-- Settles O23: Dispatch does not write the codes it compares with, so the second Lookup answers as the first. -/
theorem dispatchIsIdempotent : Obligations.DispatchIsIdempotent := by
  intro s v m₁ m₂ m₃
  cases hlookup : lookup s.cfg v with
  | known k =>
    rw [s.dispatch_known hlookup, s.dispatch_known hlookup]
    exact (s.writeActuator (pairOf k)).dispatch_known hlookup m₂
  | unrecognized =>
    rw [s.dispatch_unrecognized hlookup, s.dispatch_unrecognized hlookup, s.dispatch_unrecognized hlookup]

/-! ### The Manual Override -/

/-- From a command's pair, two presses come back to it. -/
theorem State.press_press_of_pair {s : State} {k : KnownCommand} (hcodes : s.cfg.CodesDiffer)
    (hpair : s.actuator = pairOf k) : s.press.press = s := by
  have hback : otherCommand (otherCommand k) = k := by cases k <;> rfl
  have hsecond := State.press_of_pair (s := s.writeActuator (pairOf (otherCommand k))) hcodes rfl
  rw [State.press_of_pair hcodes hpair, hsecond, hback, ← hpair]
  rfl

/-- Settles O24: the indicator tells the current command, and the other command of the other command is the first. -/
theorem pressTogglesCommand : Obligations.PressTogglesCommand := by
  refine ⟨rfl, fun s hcodes hon => ?_, fun s hcodes hoff => ?_, fun s hcodes hlegal => ?_⟩
  · exact congrArg Host.Outcome.next (State.press_of_indicator (k := .cmdA) hcodes hon)
  · exact congrArg Host.Outcome.next (State.press_of_indicator (k := .cmdB) hcodes hoff)
  · have htwice : s.press.press = s := by
      rcases hlegal with hpair | hpair <;> exact State.press_press_of_pair hcodes hpair
    exact congrArg Host.Outcome.next htwice

/-- `s` inside the busy-wait, with `n` released samples counted. -/
def State.confirming (s : State) (n : Nat) : State := (s.writeDebState .confirm).writeDebCount n

theorem State.btnSample_low_of_idle {s : State} (hidle : s.debState = .idle) : s.btnSample .low = s.confirming 0 := by
  simp [State.btnSample, hidle, readsPressed, State.confirming]

theorem State.btnSample_high_of_idle {s : State} (hidle : s.debState = .idle) : s.btnSample .high = s := by
  simp [State.btnSample, hidle, readsPressed]

/-- Settles O25. -/
theorem idleSampleDetectsPress : Obligations.IdleSampleDetectsPress :=
  ⟨rfl, rfl, fun _ hidle => congrArg Host.Outcome.next (State.btnSample_low_of_idle hidle),
    fun _ hidle => congrArg Host.Outcome.next (State.btnSample_high_of_idle hidle)⟩

/-! ### RESET -/

theorem pairOf_eq_ite (k : KnownCommand) : pairOf k = if k = .cmdA then ⟨.on, .left⟩ else ⟨.off, .right⟩ := by
  cases k <;> rfl

/-- Settles O28, with the free values of this reset's own draw. -/
theorem resetWritesEveryField : Obligations.ResetWritesEveryField := by
  refine ⟨rfl, fun s => ⟨Config.freeResetAcc s.draws, Config.freeResetBitIndex s.draws, Fin.is_le _, ?_⟩⟩
  rw [← pairOf_eq_ite]
  rfl

/-- Settles O29: in the reference configuration RESET writes the values of the power-on state. -/
theorem powerOnIsOneReset : Obligations.PowerOnIsOneReset := by
  intro s hcfg
  refine ⟨s.resetAll, rfl, ?_⟩
  have hreset : s.resetAll.cfg = Config.reference := hcfg
  have hpair : s.resetAll.actuator = State.reset.actuator := congrArg (fun c : Config => pairOf c.resetCommand) hcfg
  rw [hreset, hpair]
  rfl

end Sys2Proof.Machine
end

section
/-! SUPPORT. The statements about runs of operations: traces without a reserved word (spec/30_encoding.md R83), runs
without BTN_SAMPLE (decision D18), marks, silence and SEND (R87), and bursts without a start pulse
(spec/70_reset_and_hazards.md HZ-5). -/

namespace Sys2Proof.Machine

/-! ### A property that every operation of a run keeps -/

/-- What holds at the start and is kept by each operation of the list holds where the run ends. -/
theorem runOps_keeps {P : State → Prop} {ops : List Instr}
    (hkeeps : ∀ i ∈ ops, ∀ s t, P s → exec i s = .next t → P t) {s : State} (hs : P s) :
    ∃ t, runOps ops s = .next t ∧ P t := by
  induction ops generalizing s with
  | nil => exact ⟨s, rfl, hs⟩
  | cons i is ih =>
    obtain ⟨u, hu⟩ := exec_total i s
    have hsu := hkeeps i List.mem_cons_self s u hs hu
    obtain ⟨t, hrun, ht⟩ := ih (fun j hj => hkeeps j (List.mem_cons_of_mem i hj)) hsu
    exact ⟨t, (runOps_cons_of_next hu is).trans hrun, ht⟩

/-! ### A trace without a reserved word -/

theorem stimuli_of_exec {i : Instr} {s t : State} (h : exec i s = .next t) : t.stimuli = s.stimuli := by
  cases i with
  | nop | reset => exact Host.Outcome.next.inj h ▸ rfl
  | rise | fall | tick | timeout =>
    obtain ⟨-, -, -, hstimuli⟩ := (exec_interrupt_writes rfl h).sameOutside
    exact hstimuli.symm
  | take | press | btnSample l =>
    obtain ⟨-, ⟨-, -, -, hstimuli⟩, -⟩ := mainLoopOperationsFrame _ s t rfl h
    exact hstimuli.symm
  | cycle pins =>
    obtain ⟨-, hstimuli, -⟩ := (resetAndCycleFrame s t pins).2 h
    exact hstimuli

theorem exists_operation_of_spellsOperation {w : StimulusWord} (h : spellsOperation w = true) :
    ∃ i, decode w = .operation i := by
  unfold spellsOperation at h
  cases hw : decode w with
  | operation i => exact ⟨i, rfl⟩
  | reservedFormatE r => simp [hw] at h
  | reservedFormatP r => simp [hw] at h

/-- A step along a trace with no reserved word takes its first word, if there is one, and answers a next state. -/
theorem step_of_wellFormedTrace {s : State} (h : WellFormedTrace s.stimuli = true) :
    ∃ t, step s = .next t ∧ t.stimuli = s.stimuli.tail := by
  cases hs : s.stimuli with
  | nil => exact ⟨s, step_of_nil hs, hs⟩
  | cons w ws =>
    rw [hs, WellFormedTrace, List.all_cons, Bool.and_eq_true] at h
    obtain ⟨i, hw⟩ := exists_operation_of_spellsOperation h.1
    obtain ⟨t, ht⟩ := exec_total i (s.writeStimuli ws)
    exact ⟨t, (step_of_operation hs hw).trans ht, stimuli_of_exec ht⟩

theorem wellFormedTrace_tail {ws : List StimulusWord} (h : WellFormedTrace ws = true) :
    WellFormedTrace ws.tail = true := by
  rw [WellFormedTrace, List.all_eq_true] at h ⊢
  exact fun w hw => h w (List.mem_of_mem_tail hw)

/-- Settles O8, by induction on the number of steps: each takes one word, and what is left has no reserved word. -/
theorem wellFormedTraceNeverStops : Obligations.WellFormedTraceNeverStops := by
  intro n
  induction n with
  | zero => exact fun s h => ⟨s, rfl, h, rfl⟩
  | succ n ih =>
    intro s h
    obtain ⟨u, hstep, hu⟩ := step_of_wellFormedTrace h
    obtain ⟨t, hrun, ht, hdrop⟩ := ih u (hu ▸ wellFormedTrace_tail h)
    have hrun' : Host.Core.run Sys2Proof.core (n + 1) s = Host.Core.run Sys2Proof.core n u := by
      have hcore : Sys2Proof.core.step s = .next u := hstep
      simp only [Host.Core.run, hcore]
    exact ⟨t, hrun'.trans hrun, ht, by rw [hdrop, hu, List.drop_tail]⟩

/-! ### An idle debouncer -/

/-- The debouncer is outside any busy-wait. -/
def DebouncerIdle (s : State) : Prop := s.debState = .idle ∧ s.debCount = 0

theorem debouncerIdle_of_exec {i : Instr} (hi : ∀ l, i ≠ .btnSample l) {s t : State} (hs : DebouncerIdle s)
    (h : exec i s = .next t) : DebouncerIdle t := by
  obtain ⟨hidle, hcount⟩ := hs
  cases i with
  | nop => exact Host.Outcome.next.inj h ▸ ⟨hidle, hcount⟩
  | reset => exact Host.Outcome.next.inj h ▸ ⟨rfl, rfl⟩
  | rise | fall | tick | timeout =>
    obtain ⟨-, hstate, hsame⟩ := (exec_interrupt_writes rfl h).sameMainLoopPart
    exact ⟨hstate.symm.trans hidle, hsame.symm.trans hcount⟩
  | take => exact Host.Outcome.next.inj h ▸ ⟨s.take_debState.trans hidle, s.take_debCount.trans hcount⟩
  | press => exact Host.Outcome.next.inj h ▸ ⟨State.press_debState.trans hidle, State.press_debCount.trans hcount⟩
  | btnSample l => exact absurd rfl (hi l)
  | cycle pins =>
    cases h
    cases hrst : pins.rst with
    | true =>
      rw [s.cycle_of_rst hrst]
      exact ⟨rfl, rfl⟩
    | false =>
      obtain ⟨⟨hstate, hsame⟩, -⟩ := State.sameDebouncerAndOutside_cycle (s := s) hrst
      exact ⟨hstate.trans hidle, hsame.trans hcount⟩

/-- Settles O49: each operation but BTN_SAMPLE keeps the debouncer idle, RESET makes it so. -/
theorem idleWithoutSamples : Obligations.IdleWithoutSamples := by
  intro ops s hops hidle hcount
  refine runOps_keeps (P := DebouncerIdle) (fun i hi s t => debouncerIdle_of_exec fun l hl => ?_) ⟨hidle, hcount⟩
  exact hops l (hl ▸ hi)

/-! ### Marks and silence -/

/-- Settles O50: the run of the mark and the single fall classify the same width in the same state. -/
theorem markIsMeasuredExactly : Obligations.MarkIsMeasuredExactly := by
  intro s n hw hn
  have hfall : exec .fall (s.measuringAt n) = .next ((s.writeTickCount n).classify n) :=
    congrArg Host.Outcome.next (State.fall_measuringAt hw n)
  exact (runOps_mark hw hn).trans hfall.symm

/-- The tick after `TICK_MAX` ticks of a mark publishes the frame and stops the timer at 0 (R121). -/
theorem State.tick_measuringAt_tickMax {s : State} (hw : s.decoderState = .waitingForMark) :
    (s.measuringAt s.cfg.tickMax).tick = (s.writeTickCount 0).raiseCaptured := by
  rw [State.tick_of_overflow (s := s.measuringAt s.cfg.tickMax) rfl le_rfl]
  have hwaiting : s.writeDecoderState .waitingForMark = s := by
    rw [← hw]
    rfl
  exact congrArg (fun t => (State.writeTickCount t 0).raiseCaptured) hwaiting

/-- A rise and no fall for `TIMEOUT_TICKS` ticks or longer: the ticks up to the overflow, the overflow, and the ticks of
the stopped timer. -/
theorem runOps_rise_ticks {s : State} (hw : s.decoderState = .waitingForMark) (extra : Nat) :
    runOps (.rise :: Pseudo.ticks (s.cfg.timeoutTicks + extra)) s = .next (s.writeTickCount 0).raiseCaptured := by
  have hrise : exec .rise s = .next (s.measuringAt 0) := congrArg Host.Outcome.next (State.rise_of_waiting hw)
  have hcounted : runOps (Pseudo.ticks s.cfg.tickMax) (s.measuringAt 0) = .next (s.measuringAt s.cfg.tickMax) := by
    have h := runOps_ticks_measuringAt (s := s) (n := s.cfg.tickMax) (c := 0) (by omega)
    rwa [Nat.zero_add] at h
  have hsplit : Pseudo.ticks (s.cfg.timeoutTicks + extra) = Pseudo.ticks s.cfg.tickMax ++ Pseudo.ticks (extra + 1) := by
    rw [Pseudo.ticks, Pseudo.ticks, Pseudo.ticks, List.replicate_append_replicate, Config.timeoutTicks, Nat.add_assoc,
      Nat.add_comm 1]
  have hstopped := runOps_space (s := (s.writeTickCount 0).raiseCaptured) hw extra
  rw [runOps_cons_of_next hrise, hsplit, runOps_append hcounted, runOps_ticks_succ, State.tick_measuringAt_tickMax hw,
    ← Pseudo.space, hstopped]

/-- Settles O51: after the silence the decoder waits, so the late fall is unarmed. -/
theorem silencePublishesFrame : Obligations.SilencePublishesFrame := by
  intro s extra hw
  rw [runOps_append (runOps_rise_ticks hw extra)]
  exact congrArg Host.Outcome.next (State.fall_of_waiting (s := (s.writeTickCount 0).raiseCaptured) hw)

/-! ### SEND -/

theorem frameSum_getLsbD (c : FrameWord) (n : Nat) : frameSum c.getLsbD n = c.toNat % 2 ^ n := by
  induction n with
  | zero => simp [frameSum, Nat.mod_one]
  | succ n ih => rw [frameSum_succ, ih, Nat.mod_pow_succ, Nat.mul_comm, ← BitVec.testBit_toNat, Nat.toNat_testBit]

/-- A word is assembled from its own bits. -/
theorem frameWord_getLsbD (c : FrameWord) : frameWord c.getLsbD accWidth = c := by
  apply BitVec.eq_of_toNat_eq
  rw [frameWord_toNat _ le_rfl, frameSum_getLsbD, Nat.mod_eq_of_lt c.isLt]

/-- The width of the mark R87 writes for a data bit. -/
def bitWidth (b : Bool) : Nat := if b then 30 else 5

theorem bitMark_eq_mark (b : Bool) : Pseudo.bitMark b = Pseudo.mark (bitWidth b) := by
  cases b <;> rfl

theorem frame_eq_dataPulses (c : FrameWord) :
    Pseudo.frame c = Pseudo.start ++
      (List.range accWidth).flatMap (fun k => Pseudo.space 0 ++ Pseudo.mark (bitWidth (c.getLsbD k))) := by
  simp only [Pseudo.frame, bitMark_eq_mark]
  rfl

theorem inDataBand_bitWidth {c : Config} (hc : c.BandsOrdered) (hs : c.MeetsScenarios) (b : Bool) :
    InDataBand c b (bitWidth b) := by
  obtain ⟨hzero, hone, hstart, -⟩ := hs
  refine inDataBand_of_bounds hc (fun hb => ?_) (fun hb => ?_)
  · subst hb
    exact ⟨Nat.lt_succ_of_le hone, hstart⟩
  · subst hb
    exact hzero

/-- `s` with the frame `c` received whole and the last mark's width left in the timer. -/
def State.received (s : State) (width : Nat) (c : FrameWord) : State :=
  ((s.writeTickCount width).writeFrameAccumulator c).writeBitIndex accWidth

theorem State.withFrame_getLsbD (s : State) (width : Nat) (c : FrameWord) :
    s.withFrame width c.getLsbD accWidth = s.received width c := by
  rw [State.withFrame, frameWord_getLsbD, State.received]

/-- The frame of `c` leaves `c` in the accumulator, whatever accumulator and index held. -/
theorem runOps_frame {s : State} (hcfg : s.cfg.BandsOrdered) (hs : s.cfg.MeetsScenarios) (hmax : 45 ≤ s.cfg.tickMax)
    (hw : s.decoderState = .waitingForMark) (c : FrameWord) :
    ∃ width, runOps (Pseudo.frame c) s = .next (s.received width c) := by
  obtain ⟨-, -, -, hstart⟩ := id hs
  obtain ⟨width, hdata⟩ := runOps_dataPulses hw (fun _ => 0) 45 le_rfl
    fun k _ => inDataBand_bitWidth hcfg hs (c.getLsbD k)
  refine ⟨width, ?_⟩
  rw [frame_eq_dataPulses, Pseudo.start, runOps_append (runOps_startPulse hw (Nat.lt_succ_of_le hstart) hmax c.getLsbD),
    hdata, State.withFrame_getLsbD]

theorem runOps_silence {s : State} (hmax : s.cfg.tickMax = 255) (hw : s.decoderState = .waitingForMark) :
    runOps Pseudo.silence s = .next (s.writeTickCount 0).raiseCaptured := by
  have hticks : s.cfg.timeoutTicks + 0 = 256 := congrArg (· + 1) hmax
  have h := runOps_rise_ticks hw 0
  rwa [hticks] at h

/-- Settles O53: the frame assembles the code, the silence publishes it, and the TAKE dispatches it. -/
theorem sentCommandDrivesActuator : Obligations.SentCommandDrivesActuator := by
  intro s k hcfg hscenarios htick hw hidle
  obtain ⟨hbands, hcodes, -⟩ := hcfg
  have hmax : s.cfg.tickMax = 255 := by simp [Config.tickMax, htick]
  obtain ⟨width, hframe⟩ := runOps_frame hbands hscenarios (by omega) hw (codeOf s.cfg k)
  have hsilence := runOps_silence (s := s.received width (codeOf s.cfg k)) hmax hw
  have htake := State.take_of_known (s := ((s.received width (codeOf s.cfg k)).writeTickCount 0).raiseCaptured)
    hidle rfl (lookup_codeOf hcodes k)
  rw [Pseudo.send, List.append_assoc, runOps_append hframe, runOps_append hsilence]
  exact congrArg Host.Outcome.next htake

/-! ### A burst with no start pulse -/

/-- Under `ignore` a full frame drops a data pulse of either kind. -/
theorem runOps_mark_ignored {s : State} (hc : s.cfg.BandsOrdered) (hp : s.cfg.overrunPolicy = .ignore)
    (hw : s.decoderState = .waitingForMark) (hfull : accWidth ≤ s.bitIndex) {w : Nat}
    (hdata : w ≤ s.cfg.startThreshold) : runOps (Pseudo.mark w) s = .next (s.writeTickCount w) := by
  obtain ⟨-, hmax⟩ := hc
  have hclass : (s.writeTickCount w).classify w =
      (s.writeTickCount w).appendBit (decide (s.cfg.dataOneThreshold < w)) :=
    State.classify_of_inDataBand _ ⟨pulseClass_of_le_startThreshold hdata, hdata.trans hmax.le⟩
  rw [runOps_mark hw (hdata.trans hmax.le), hclass, State.appendBit_ignored (s := s.writeTickCount w) _ hp hfull]

/-- Settles O54, by induction on the burst: each mark leaves its width in the stopped timer and nothing else. -/
theorem startlessBurstIsIgnored : Obligations.StartlessBurstIsIgnored := by
  intro s widths hcfg hp hw hfull hdata
  obtain ⟨hbands, -⟩ := hcfg
  induction widths generalizing s with
  | nil => exact ⟨s, rfl, rfl⟩
  | cons w ws ih =>
    have hmark := runOps_mark_ignored hbands hp hw hfull (hdata w List.mem_cons_self)
    obtain ⟨t, hrun, ht⟩ := ih (s.writeTickCount w) hp hw hfull (fun v hv => hdata v (List.mem_cons_of_mem w hv)) hbands
    exact ⟨t, (runOps_append hmark _).trans hrun, ht⟩

end Sys2Proof.Machine
end

section
/-! SUPPORT. The statements about hand-offs that merge (spec/70_reset_and_hazards.md HZ-8), the button held and clicked
(HZ-3, spec/43_manual_override.md section 2), and the measured width of a mark (HZ-10, R240). -/

namespace Sys2Proof.Machine

/-! ### Hand-offs merge -/

theorem runTimes_succ {i : Instr} {s t : State} (h : exec i s = .next t) (n : Nat) :
    runTimes (n + 1) i s = runTimes n i t :=
  runOps_cons_of_next h _

/-- A TIMEOUT after a TIMEOUT changes nothing. -/
theorem runTimes_timeout_timeoutAction (n : Nat) (s : State) :
    runTimes n .timeout s.timeoutAction = .next s.timeoutAction := by
  induction n with
  | zero => rfl
  | succ n ih =>
    have hagain : exec .timeout s.timeoutAction = .next s.timeoutAction := rfl
    rw [runTimes_succ hagain, ih]

/-- At the event level only TAKE and RESET bring the flag down (I-b). -/
theorem flag_of_exec {i : Instr} (hi : i ≠ .take ∧ i ≠ .reset ∧ ∀ pins, i ≠ .cycle pins) {s t : State}
    (hflag : s.signalCapturedFlag = true) (h : exec i s = .next t) : t.signalCapturedFlag = true := by
  obtain ⟨htake, hreset, hcycle⟩ := hi
  by_contra hclear
  rcases (flagTransitionsAreOwned i s t h).2 hflag (Bool.not_eq_true _ ▸ hclear) with
    ⟨rfl, -⟩ | rfl | ⟨pins, rfl, -⟩
  · exact htake rfl
  · exact hreset rfl
  · exact hcycle pins rfl

/-- Of two TAKEs with the debouncer idle the first acts and clears the flag, so the second does nothing. -/
theorem runOps_take_take {s : State} (hidle : s.debState = .idle) (hflag : s.signalCapturedFlag = true) :
    runOps [.take, .take] s = .next (s.clearCaptured.dispatch s.frameAccumulator false) := by
  have hfirst : s.take = s.clearCaptured.dispatch s.frameAccumulator false := by
    simp [State.take, hidle, hflag]
  have hcleared : s.take.signalCapturedFlag = false := by
    rw [← Bool.not_eq_true, s.take_signalCapturedFlag_iff]
    exact fun ⟨_, hheld⟩ => hheld hidle
  have htwice : s.take.take = s.clearCaptured.dispatch s.frameAccumulator false :=
    (State.take_of_flag_clear hcleared).trans hfirst
  exact congrArg Host.Outcome.next htwice

/-- Settles O55: TIMEOUT is idempotent, and the flag, once up, waits for the first TAKE. -/
theorem timeoutsMerge : Obligations.TimeoutsMerge := by
  refine ⟨fun s n => ?_, fun s ops hflag hops => ?_⟩
  · rw [runTimes_succ (t := s.timeoutAction) rfl, runTimes_timeout_timeoutAction]
    rfl
  · obtain ⟨t, hrun, ht⟩ :=
      runOps_keeps (P := fun s => s.signalCapturedFlag = true) (fun i hi _ _ => flag_of_exec (hops i hi)) hflag
    exact ⟨t, hrun, ht, fun hidle => (runOps_append hrun _).trans (runOps_take_take hidle ht)⟩

/-! ### The button -/

theorem exec_btnSample_low_of_idle {s : State} (hidle : s.debState = .idle) :
    exec (.btnSample .low) s = .next (s.confirming 0) :=
  congrArg Host.Outcome.next (State.btnSample_low_of_idle hidle)

/-- Further pressed samples leave the busy-wait at its start. -/
theorem runOps_low_confirming (n : Nat) (s : State) :
    runOps (List.replicate n (.btnSample .low)) (s.confirming 0) = .next (s.confirming 0) := by
  induction n with
  | zero => rfl
  | succ n ih =>
    have hlow : exec (.btnSample .low) (s.confirming 0) = .next (s.confirming 0) :=
      congrArg Host.Outcome.next (State.btnSample_low_of_confirm (s := s.confirming 0) rfl)
    rw [List.replicate_succ, runOps_cons_of_next hlow, ih]

/-- Settles O56: the first pressed sample begins the busy-wait, the others restart it, and it holds the TAKE. -/
theorem heldButtonHoldsTake : Obligations.HeldButtonHoldsTake := by
  intro s n hidle
  have hheld : exec .take (s.confirming 0) = .next (s.confirming 0) :=
    congrArg Host.Outcome.next (State.take_of_confirm (s := s.confirming 0) rfl)
  rw [List.replicate_succ, List.cons_append, runOps_cons_of_next (exec_btnSample_low_of_idle hidle),
    runOps_append (runOps_low_confirming n s), runOps_cons_of_next hheld]
  rfl

/-- Released samples inside the busy-wait are counted as long as one more is asked for. -/
theorem runOps_high_confirming {s : State} {m n : Nat} (h : m + n < s.cfg.debounceConfirmations) :
    runOps (List.replicate n (.btnSample .high)) (s.confirming m) = .next (s.confirming (m + n)) := by
  induction n generalizing m with
  | zero => rfl
  | succ n ih =>
    have hlt : m + 1 < s.cfg.debounceConfirmations := by omega
    have hcount : (s.confirming m).btnSample .high = s.confirming (m + 1) :=
      (State.btnSample_high_of_confirm (s := s.confirming m) rfl).trans (State.confirmRelease_of_lt hlt)
    have hhigh : exec (.btnSample .high) (s.confirming m) = .next (s.confirming (m + 1)) :=
      congrArg Host.Outcome.next hcount
    rw [List.replicate_succ, runOps_cons_of_next hhigh, ih (by omega), Nat.add_right_comm, Nat.add_assoc]

/-- Released samples do nothing to an idle debouncer. -/
theorem runOps_high_of_idle {s : State} (hidle : s.debState = .idle) (n : Nat) :
    runOps (List.replicate n (.btnSample .high)) s = .next s := by
  induction n with
  | zero => rfl
  | succ n ih =>
    have hhigh : exec (.btnSample .high) s = .next s := congrArg Host.Outcome.next (State.btnSample_high_of_idle hidle)
    rw [List.replicate_succ, runOps_cons_of_next hhigh, ih]

/-- The last confirmation presses, from the state before the button was pressed (R154). -/
theorem State.btnSample_high_last {s : State} (hidle : s.debState = .idle) (hcount : s.debCount = 0) {m : Nat}
    (hlast : s.cfg.debounceConfirmations ≤ m + 1) : (s.confirming m).btnSample .high = s.press := by
  have hback : ((s.confirming m).writeDebCount 0).writeDebState .idle = s := by
    rw [← hidle, ← hcount]
    rfl
  rw [State.btnSample_high_of_confirm (s := s.confirming m) rfl, State.confirmRelease_of_last hlast, hback]

/-- Settles O57: all released samples but the last are counted, the last presses, and those after it find the debouncer
idle. -/
theorem clickPressesOnce : Obligations.ClickPressesOnce := by
  intro s n hcfg hidle hcount
  obtain ⟨-, -, -, -, hconfirm⟩ := hcfg
  rw [runOps_cons_of_next (exec_btnSample_low_of_idle hidle)]
  refine ⟨fun hlt => ?_, fun hle => ?_⟩
  · rw [runOps_high_confirming (by omega), Nat.zero_add]
    rfl
  · obtain ⟨c, hc⟩ := Nat.exists_eq_add_of_le' hconfirm
    obtain ⟨extra, rfl⟩ := Nat.exists_eq_add_of_le hle
    have hcounted : runOps (List.replicate c (.btnSample .high)) (s.confirming 0) = .next (s.confirming c) := by
      rw [runOps_high_confirming (by omega), Nat.zero_add]
    have hpress : exec (.btnSample .high) (s.confirming c) = .next s.press :=
      congrArg Host.Outcome.next (State.btnSample_high_last hidle hcount hc.le)
    rw [hc, Nat.add_assoc, Nat.add_comm 1, ← List.replicate_append_replicate, runOps_append hcounted,
      List.replicate_succ, runOps_cons_of_next hpress, runOps_high_of_idle (State.press_debState.trans hidle)]
    rfl

/-! ### The measured width -/

/-- The tick instants up to the falling edge, counted with the one at the rising edge where the ticks begin there. -/
theorem Wire.tickInstantsBetween_add (c : Config) {phase micros : Nat} (hphase : phase < c.tickPeriodMicros)
    (hpos : 0 < micros) :
    Wire.tickInstantsBetween c phase micros + (if phase = 0 then 1 else 0) =
      micros / c.tickPeriodMicros + if phase < micros % c.tickPeriodMicros then 1 else 0 := by
  obtain ⟨m, rfl⟩ := Nat.exists_eq_add_of_lt hpos
  have hmod (t : Nat) : t ≡ phase [MOD c.tickPeriodMicros] ↔ t % c.tickPeriodMicros = phase := by
    rw [Nat.ModEq, Nat.mod_eq_of_lt hphase]
  have hcard := Nat.count_modEq_card (m + 1) (Nat.zero_lt_of_lt hphase) phase
  simp only [hmod, Nat.mod_eq_of_lt hphase] at hcard
  rw [Nat.count_succ'] at hcard
  simpa [Wire.tickInstantsBetween, eq_comm] using hcard

/-- Rounding carries from half a period on. -/
theorem Wire.roundedTicks_eq (c : Config) {micros : Nat} (hperiod : 0 < c.tickPeriodMicros) :
    Wire.roundedTicks c micros =
      micros / c.tickPeriodMicros + if c.tickPeriodMicros ≤ 2 * (micros % c.tickPeriodMicros) then 1 else 0 := by
  have hsplit : 2 * micros + c.tickPeriodMicros =
      2 * c.tickPeriodMicros * (micros / c.tickPeriodMicros) +
        (2 * (micros % c.tickPeriodMicros) + c.tickPeriodMicros) := by
    have h := Nat.div_add_mod micros c.tickPeriodMicros
    rw [Nat.mul_assoc]
    omega
  have hlt := Nat.mod_lt micros hperiod
  rw [Wire.roundedTicks, hsplit, Nat.mul_add_div (by omega)]
  congr 1
  split
  · exact Nat.div_eq_of_lt_le (by omega) (by omega)
  · exact Nat.div_eq_of_lt (by omega)

/-- Settles O58: the count and the rounding both differ from the quotient by a carry, and a tick at the rising edge,
which is not counted, leaves a carry of the count wherever the rounding has one. -/
theorem measuredWidthIsRoundedOrOneOff : Obligations.MeasuredWidthIsRoundedOrOneOff := by
  intro c phase micros hphase
  have hperiod := Nat.zero_lt_of_lt hphase
  rw [Wire.mem_measuredWidths, Wire.roundedTicks_eq c hperiod]
  rcases Nat.eq_zero_or_pos micros with rfl | hpos
  · simp [Wire.tickInstantsBetween, hperiod.ne']
  · have hcount := Wire.tickInstantsBetween_add c hphase hpos
    generalize micros / c.tickPeriodMicros = q, micros % c.tickPeriodMicros = r,
      Wire.tickInstantsBetween c phase micros = n at *
    split_ifs at hcount ⊢ <;> omega

end Sys2Proof.Machine
end

section
/-! SUPPORT. The statement about the textual trace (spec/30_encoding.md R86): an operation written as text reads back as
itself. -/

namespace Sys2Proof.Machine.TraceText

/-! ### Reading one operation -/

/-- A character that ends an operation or begins a comment. -/
def isSeparator (c : Char) : Bool := c == '\n' || c == '#' || c == ';'

theorem splitOps_of_no_separator {cs : List Char} (h : cs.all (!isSeparator ·) = true) (cur : List Char) :
    splitOps cs cur false = [cur.reverse ++ cs] := by
  induction cs generalizing cur with
  | nil => simp [splitOps]
  | cons c cs ih =>
    simp only [List.all_cons, isSeparator, Bool.and_eq_true, Bool.not_eq_true', Bool.or_eq_false_iff] at h
    obtain ⟨⟨⟨hnewline, hcomment⟩, hsemicolon⟩, hrest⟩ := h
    simp only [splitOps, hnewline, hcomment, hsemicolon, Bool.false_eq_true, if_false]
    rw [ih hrest]
    simp

/-- A text with no separator is one operation. -/
theorem parseTrace_of_no_separator {cs : List Char} (h : cs.all (!isSeparator ·) = true) :
    parseTrace cs = parseOp cs := by
  rw [parseTrace, splitOps_of_no_separator h, List.reverse_nil, List.nil_append, parseOps, parseOps]
  cases parseOp cs <;> simp

/-- A text that begins with a character that is no blank. -/
theorem dropWhile_isBlank_append {cs : List Char} (hne : cs ≠ []) (h : cs.all (!isBlank ·) = true) (rest : List Char) :
    (cs ++ rest).dropWhile isBlank = cs ++ rest := by
  cases cs with
  | nil => exact absurd rfl hne
  | cons c cs =>
    simp only [List.all_cons, Bool.and_eq_true, Bool.not_eq_true'] at h
    simp [h.1]

/-- Blanks inside a text stay: only those around it are cut off. -/
theorem trim_append {m o : List Char} (hm : m ≠ []) (ho : o ≠ []) (hm' : m.all (!isBlank ·) = true)
    (ho' : o.all (!isBlank ·) = true) (between : List Char) : trim (m ++ (between ++ o)) = m ++ (between ++ o) := by
  have hback : (o.reverse ++ (between.reverse ++ m.reverse)).dropWhile isBlank =
      o.reverse ++ (between.reverse ++ m.reverse) :=
    dropWhile_isBlank_append (by simpa using ho) (by simpa using ho') _
  rw [trim, dropWhile_isBlank_append hm hm']
  simp only [List.reverse_append, List.append_assoc]
  rw [hback]
  simp

theorem trim_of_no_blank {cs : List Char} (hne : cs ≠ []) (h : cs.all (!isBlank ·) = true) : trim cs = cs := by
  have hfront := dropWhile_isBlank_append hne h []
  have hback := dropWhile_isBlank_append (cs := cs.reverse) (by simpa using hne) (by simpa using h) []
  simp only [List.append_nil] at hfront hback
  rw [trim, hfront, hback, List.reverse_reverse]

/-- A mnemonic, a blank, an operand. -/
theorem parseOp_operand {m o : List Char} (hm : m ≠ []) (ho : o ≠ []) (hm' : m.all (!isBlank ·) = true)
    (ho' : o.all (!isBlank ·) = true) : parseOp (m ++ ' ' :: o) = parseWithOperand m o := by
  have hbody : trim (m ++ ' ' :: o) = m ++ ' ' :: o := trim_append hm ho hm' ho' [' ']
  have hblank : isBlank ' ' = true := rfl
  have hmnemonic : (m ++ ' ' :: o).takeWhile (!isBlank ·) = m := by
    rw [List.takeWhile_append_of_pos (List.all_eq_true.mp hm')]
    simp [hblank]
  have hoperand : trim ((m ++ ' ' :: o).dropWhile (!isBlank ·)) = o := by
    rw [List.dropWhile_append_of_pos (List.all_eq_true.mp hm')]
    simpa [trim, hblank] using trim_of_no_blank ho ho'
  rw [parseOp, hbody, hmnemonic, hoperand]
  cases m with
  | nil => exact absurd rfl hm
  | cons c cs =>
    cases o with
    | nil => exact absurd rfl ho
    | cons d ds => rfl

/-- A whole trace of one operation with an operand. -/
theorem parseTrace_operand {m o : List Char} (hm : m ≠ []) (ho : o ≠ []) (hm' : m.all (!isBlank ·) = true)
    (ho' : o.all (!isBlank ·) = true) (hsep : (m ++ ' ' :: o).all (!isSeparator ·) = true) :
    parseTrace (m ++ ' ' :: o) = parseWithOperand m o :=
  (parseTrace_of_no_separator hsep).trans (parseOp_operand hm ho hm' ho')

/-! ### Bits as characters -/

/-- The character of a bit. -/
def bitChar (b : Bool) : Char := if b then '1' else '0'

theorem bitText_toList (b : Bool) : (bitText b).toList = [bitChar b] := by
  cases b <;> rfl

@[simp] theorem parseBit_bitChar (b : Bool) : parseBit (bitChar b) = some b := by
  cases b <;> rfl

@[simp] theorem isBlank_bitChar (b : Bool) : isBlank (bitChar b) = false := by
  cases b <;> rfl

@[simp] theorem isSeparator_bitChar (b : Bool) : isSeparator (bitChar b) = false := by
  cases b <;> rfl

@[simp] theorem bitChar_beq_comma (b : Bool) : (bitChar b == ',') = false := by
  cases b <;> rfl

/-! ### The operand of CYCLE -/

/-- The six bits in the order `r,x,p,q,t,i`. -/
def pinsText (p : Pins) : List Char :=
  [bitChar p.rst, ',', bitChar p.timeoutExt, ',', bitChar p.press, ',', bitChar p.pollEn, ',', bitChar p.tickEn, ',',
    bitChar p.irIn.toBit]

theorem render_cycle_toList (p : Pins) : (render (.cycle p)).toList = "CYCLE".toList ++ ' ' :: pinsText p := by
  simp [render, Instr.row, bitText_toList, pinsText]

theorem splitCommas_bitChar_comma (b : Bool) (cs : List Char) :
    splitCommas (bitChar b :: ',' :: cs) [] = [bitChar b] :: splitCommas cs [] := by
  simp [splitCommas]

theorem splitCommas_bitChar (b : Bool) : splitCommas [bitChar b] [] = [[bitChar b]] := by
  simp [splitCommas]

theorem trim_bitChar (b : Bool) : trim [bitChar b] = [bitChar b] :=
  trim_of_no_blank (by simp) (by simp)

theorem parsePins_pinsText (p : Pins) : parsePins (pinsText p) = some p := by
  simp only [parsePins, pinsText, splitCommas_bitChar_comma, splitCommas_bitChar, List.map_cons, List.map_nil,
    trim_bitChar, parseBit_bitChar]
  simp

theorem isBlank_comma : isBlank ',' = false := rfl

theorem isSeparator_comma : isSeparator ',' = false := rfl

theorem parseTrace_render_cycle (p : Pins) : parseTrace (render (.cycle p)).toList = some [.cycle p] := by
  have hnoBlank : (pinsText p).all (!isBlank ·) = true := by simp [pinsText, isBlank_comma]
  have hnoSeparator : (pinsText p).all (!isSeparator ·) = true := by simp [pinsText, isSeparator_comma]
  have hmnemonic : ("CYCLE".toList ++ [' ']).all (!isSeparator ·) = true := by decide
  have hsep : ("CYCLE".toList ++ ' ' :: pinsText p).all (!isSeparator ·) = true := by
    rw [List.append_cons, List.all_append, hmnemonic, hnoSeparator]
    rfl
  have hcycle : parseWithOperand "CYCLE".toList (pinsText p) =
      (parsePins (pinsText p)).map fun pins => [.cycle pins] := rfl
  rw [render_cycle_toList, parseTrace_operand (by decide) (by simp [pinsText]) (by decide) hnoBlank hsep, hcycle,
    parsePins_pinsText]
  rfl

/-- Settles O7: the texts with no operand and the two of BTN_SAMPLE evaluate; CYCLE's six bits are read one by one. -/
theorem renderedOperationParsesBack : Obligations.RenderedOperationParsesBack := by
  intro i
  cases i with
  | nop | rise | fall | tick | timeout | take | press | reset => decide
  | btnSample l => cases l <;> decide
  | cycle pins => exact parseTrace_render_cycle pins

end Sys2Proof.Machine.TraceText
end
